-- ==== Sys2Proof/Word.lean ====
section
/-! DEFINITION. The words of the device: bytes and 16-bit words, and a timer in tenths (00_scope 5.1). -/

namespace Sys2Proof

/-- One byte of a frame, a telegram or the topology store. -/
abbrev Byte := BitVec 8

/-- Two bytes, most significant first on every link and in the store (00_scope 5.3). -/
abbrev Word := BitVec 16

/-- A timer counting in tenths (00_scope 5.1): `none` while stopped, `some n` with `n` tenths remaining.
`some 0` is a timer that has run out and whose expiry has not been taken. -/
abbrev Timer := Option Nat

end Sys2Proof
end

