-- ==== Sys2Proof/Config.lean ====
section
/-! DEFINITION. The fixed capacities of the device (00_scope 1.1) and the values the manual leaves open,
each an opaque constant with no body, so that no proof can see what it is. -/

namespace Sys2Proof.Config

/-- Element ids run from 0 to 511 (00_scope 5.2). -/
def elements : Nat := 512
/-- Route ids run from 0 to 383. -/
def routes : Nat := 384
/-- Route slots run from 0 to 47. -/
def routeSlots : Nat := 48
/-- The request queue holds at most 16 entries (R61). -/
def queueLength : Nat := 16
/-- Flank group ids run from 0 to 255. -/
def groups : Nat := 256
/-- Claim records run from 0 to 127 (R72). -/
def claims : Nat := 128
/-- Boundary line ids run from 0 to 15. -/
def lines : Nat := 16
/-- Item indexes run from 0 to 7 (R70). -/
def items : Nat := 8
/-- Neighbour slots N0 to N3 and ports P0 to P3. -/
def linkSlots : Nat := 4
/-- The object address map has 64 entries (R25). -/
def mapEntries : Nat := 64
/-- Store segments run from 0 to 243, of 512 bytes each (R168). -/
def segments : Nat := 244
/-- Bytes of a segment (R168). -/
def segmentBytes : Nat := 512
/-- The transmit list of a slot holds at most 32 telegrams (R131). -/
def transmitList : Nat := 32

/-- The silicon revision number that IDENTIFY reports (R190); the manual gives no value (log 13). -/
opaque siliconRevision : BitVec 8

/-- Whether power-on reset during a program leaves the byte `i` of the range at its old value (R172):
each byte holds either its old value or the AND of old and new. A free value, applied to the free-value
counter and the byte's place (log 10). -/
opaque tornByteKeepsOld : Nat → Nat → Bool

/-- How many segments an abandoned START pass has read (R175 keeps the conditions derived so far); a free
value, applied to the free-value counter and taken modulo 245 (log 11). -/
opaque passProgress : Nat → Nat

/-- Whether this end wins crossing direction asks whose two claim words are equal: R152 says the words
always differ and states no result for equal ones. A free value, applied to the word (log 14). -/
opaque equalWordsWin : BitVec 16 → Bool

/-- How many bytes of 0xFF the device sends before a response: R183 says at most 8. A free value, applied to the
free-value counter and taken modulo 9 (log 38). -/
opaque answerLead : Nat → Nat

end Sys2Proof.Config
end

