-- ==== Sys2Proof/Syntax.lean ====
section
/-! DEFINITION. The commands of the device: one constructor for each row of spec/opcode_table.json.
Operands of requests and telegrams are the bytes and words that the layouts of R185 and R194 give them;
operands of the device's own events name the record concerned by its identifier (00_scope 5.2). -/

namespace Sys2Proof

/-- One character on a neighbour link as it stands on the port's pins, before the inversion of R127:
nine bits, the control marker uppermost (R129), or a character that fails decoding on the line. -/
inductive LinkChar where
  | bits (c : BitVec 9)
  | undecodable
  deriving DecidableEq, Repr

inductive Instr where
  /-- POWER_ON_RESET: RESET_N asserted, or the supply rising. -/
  | powerOnReset
  /-- SELECT_FALL: the select pin falls. -/
  | selectFall
  /-- PARTIAL_FRAME_DISCARD: select rises before a request frame is complete. -/
  | partialFrameDiscard
  /-- BAD_FRAME: a complete frame, given byte by byte, that R184 judges bad. -/
  | badFrame (frame : List Byte)
  /-- TRANSACTION_END: select rises while the receiver is ANSWERING. -/
  | transactionEnd
  /-- The requests of R185, each taken at the completion of its frame. -/
  | identify
  | status
  | start
  | restart
  | topoProgram (segment : Byte) (offset : Word) (data : List Byte)
  | topoFreeze (segment : Byte)
  | topoRead (segment : Byte) (offset : Word) (count : Byte)
  | topoStatus (segment : Byte)
  | setRoute (route : Word) (options : Byte)
  | cancelRoute (route : Word)
  | reclear (route : Word)
  | timedRelease (route : Word)
  | movePoints (element : Word) (position : Byte)
  | block (element : Word)
  | unblock (element : Word)
  | queryElement (element : Word) (takeCapture : Byte)
  | queryRoute (route : Word)
  | queryClaim (selector : Byte) (number : Word)
  | queryLine (line : Byte)
  | setLinePolicy (line : Byte) (policy : Byte)
  | answerOffer (line : Byte) (decision : Byte)
  | lineReset (line : Byte)
  | linkControlReport (slot port inversion : Byte)
  | linkControlEnable (slot port inversion : Byte)
  | linkControlDisable (slot port inversion : Byte)
  | linkControlMap (slot port inversion : Byte)
  | readNotices
  | setNoticeEnables (enables : Word) (master : Byte)
  | nextOutcome
  | nextFault
  | readCounters (clear : Byte)
  /-- Events of the topology store. -/
  | topoProgramComplete
  | topoFreezeComplete
  | startPassComplete
  | scanTimerExpiry
  /-- Events of the field link; a telegram is its kind, object address, value and check bytes (R23). -/
  | fieldStatusTelegram (kind : Byte) (address : Word) (value check : Byte)
  | fieldFramingError
  | fieldCharacterGap
  | demandTelegramBuild
  /-- Field timers, by element id. -/
  | supervisionTimerExpiry (element : Nat)
  | throwTimerExpiry (element : Nat)
  | provingTimerExpiry (element : Nat)
  | returnWindowExpiry (element : Nat)
  | refreshTimerExpiry (element : Nat)
  /-- Route timers: the storage timer by route id, the others by route slot. -/
  | storageTimerExpiry (route : Nat)
  | overlapTimerExpiry (slot : Nat)
  | approachHoldExpiry (slot : Nat)
  | timedReleaseExpiry (slot : Nat)
  /-- Flank timers, by boundary line and item index. -/
  | askTimerExpiry (line item : Nat)
  | sweepHoldExpiry (line item : Nat)
  /-- Link timers, by neighbour slot. -/
  | holdoffTimerExpiry (slot : Nat)
  | identTimerExpiry (slot : Nat)
  | identSendIntervalExpiry (slot : Nat)
  | silenceTimerExpiry (slot : Nat)
  | imageTimerExpiry (slot : Nat)
  /-- The link transmitter of a slot is free. -/
  | linkTelegramSend (slot : Nat)
  /-- Characters received on a port. -/
  | huntCharacter (port : Nat) (c : LinkChar)
  | linkStrayCharacter (port : Nat) (c : LinkChar)
  | linkTelegramRejected (port : Nat) (chars : List LinkChar)
  /-- Telegrams received on a port with a valid check and the payload length of their kind: the header's
  sequence number and line index, and the payload (R130, R194). -/
  | identReceived (port : Nat) (sequence lineIndex : Byte) (sender addressee : Word) (level lineCount flags : Byte)
  | lineImageReceived (port : Nat) (sequence lineIndex : Byte) (occupancy token : Byte) (items : List Byte)
  | dirAskReceived (port : Nat) (sequence lineIndex : Byte) (word : Word)
  | dirYieldReceived (port : Nat) (sequence lineIndex : Byte)
  | dirRefuseReceived (port : Nat) (sequence lineIndex : Byte) (reason : Byte)
  | offerReceived (port : Nat) (sequence lineIndex : Byte) (offer : Byte)
  | acceptReceived (port : Nat) (sequence lineIndex : Byte) (offer : Byte)
  | declineReceived (port : Nat) (sequence lineIndex : Byte) (offer reason : Byte)
  | withdrawReceived (port : Nat) (sequence lineIndex : Byte) (offer : Byte)
  | passedReceived (port : Nat) (sequence lineIndex : Byte) (offer : Byte)
  | flankAskReceived (port : Nat) (sequence lineIndex : Byte) (item ask : Byte)
  | flankGrantReceived (port : Nat) (sequence lineIndex : Byte) (item ask satisfaction : Byte)
  | flankDenyReceived (port : Nat) (sequence lineIndex : Byte) (item ask reason : Byte)
  | flankFreeReceived (port : Nat) (sequence lineIndex : Byte) (item ask sweep : Byte)
  /-- Boundary timers, by line id. -/
  | askDeadlineExpiry (line : Nat)
  | offerDeadlineExpiry (line : Nat)
  | hostDeadlineExpiry (line : Nat)
  | lineResetExpiry (line : Nat)
  deriving DecidableEq, Repr

end Sys2Proof
end

