-- ==== Sys2Proof/Decode.lean ====
section
/-! DEFINITION. The frames of the command port: CRC-16, the judgment of a complete frame (R182, R184, R185) and
the frame a request is sent in. No row of the opcode table gives bits, so `decodeTableWord` answers none. -/

namespace Sys2Proof

/-- A word's bytes, most significant first (00_scope 5.3). -/
def Word.bytes (w : Word) : List Byte := [w.extractLsb' 8 8, w.extractLsb' 0 8]

/-- The word of two bytes, most significant first. -/
def wordOf (hi lo : Byte) : Word := hi ++ lo

/-- One bit of CRC-16 with polynomial x^16 + x^12 + x^5 + 1 (R130, R182). -/
def crcBit (c : Word) (b : Bool) : Word :=
  if c.msb != b then (c <<< 1) ^^^ 0x1021 else c <<< 1

/-- One byte, most significant bit first. -/
def crcByte (c : Word) (b : Byte) : Word :=
  [7, 6, 5, 4, 3, 2, 1, 0].foldl (fun c i => crcBit c (b.getLsbD i)) c

/-- The CRC-16 over bytes, with initial value all ones (R130, R182). -/
def crc16 (bytes : List Byte) : Word := bytes.foldl crcByte 0xFFFF

/-- The request a kind and its parameters name (R185); none for a kind outside the catalogue or a length that is
not the kind's (R184). An action of LINK_CONTROL outside its set is read as MAP with a port code that names
none: both are WRONG_MODE outside OPERATING and NOT_DEFINED in it (log 5). -/
def parseRequest (kind : Byte) (ps : List Byte) : Option Instr :=
  match kind.toNat, ps with
  | 0x01, [] => some .identify
  | 0x02, [] => some .status
  | 0x03, [] => some .start
  | 0x04, [] => some .restart
  | 0x05, s :: oh :: ol :: data => some (.topoProgram s (wordOf oh ol) data)
  | 0x06, [s] => some (.topoFreeze s)
  | 0x07, [s, oh, ol, n] => some (.topoRead s (wordOf oh ol) n)
  | 0x08, [s] => some (.topoStatus s)
  | 0x09, [rh, rl, o] => some (.setRoute (wordOf rh rl) o)
  | 0x0A, [rh, rl] => some (.cancelRoute (wordOf rh rl))
  | 0x0B, [rh, rl] => some (.reclear (wordOf rh rl))
  | 0x0C, [rh, rl] => some (.timedRelease (wordOf rh rl))
  | 0x0D, [eh, el, p] => some (.movePoints (wordOf eh el) p)
  | 0x0E, [eh, el] => some (.block (wordOf eh el))
  | 0x0F, [eh, el] => some (.unblock (wordOf eh el))
  | 0x10, [eh, el, t] => some (.queryElement (wordOf eh el) t)
  | 0x11, [rh, rl] => some (.queryRoute (wordOf rh rl))
  | 0x12, [k, nh, nl] => some (.queryClaim k (wordOf nh nl))
  | 0x13, [l] => some (.queryLine l)
  | 0x14, [l, p] => some (.setLinePolicy l p)
  | 0x15, [l, d] => some (.answerOffer l d)
  | 0x16, [l] => some (.lineReset l)
  | 0x17, [s, a, p, i] =>
    match a.toNat with
    | 0 => some (.linkControlReport s p i)
    | 1 => some (.linkControlEnable s p i)
    | 2 => some (.linkControlDisable s p i)
    | 3 => some (.linkControlMap s p i)
    | _ => some (.linkControlMap s 0xFE i)
  | 0x18, [] => some .readNotices
  | 0x19, [eh, el, m] => some (.setNoticeEnables (wordOf eh el) m)
  | 0x1A, [] => some .nextOutcome
  | 0x1B, [] => some .nextFault
  | 0x1C, [c] => some (.readCounters c)
  | _, _ => none

/-- What R184 says of a frame's bytes: not yet complete (R182), BAD_FRAME (cases 1 to 3), or a request to be taken. -/
inductive FrameVerdict where
  | incomplete
  | bad
  | request (c : Instr)
  deriving DecidableEq, Repr

/-- The judgment of a frame (R182, R184). A length byte above 250 is no parameter length of any kind. -/
def judgeFrame (frame : List Byte) : FrameVerdict :=
  match frame with
  | kind :: len :: rest =>
    if rest.length ≠ len.toNat + 2 then .incomplete
    else if rest.drop len.toNat ≠ Word.bytes (crc16 (kind :: len :: rest.take len.toNat)) then .bad
    else if 250 < len.toNat then .bad
    else match parseRequest kind (rest.take len.toNat) with
      | none => .bad
      | some c => .request c
  | _ => .incomplete

/-- Kind and parameters of a request (R185, R194); none for a command that is no request. -/
def requestParams (c : Instr) : Option (Byte × List Byte) :=
  match c with
  | .identify => some (0x01, [])
  | .status => some (0x02, [])
  | .start => some (0x03, [])
  | .restart => some (0x04, [])
  | .topoProgram s o data => some (0x05, s :: (o.bytes ++ data))
  | .topoFreeze s => some (0x06, [s])
  | .topoRead s o n => some (0x07, s :: (o.bytes ++ [n]))
  | .topoStatus s => some (0x08, [s])
  | .setRoute r o => some (0x09, r.bytes ++ [o])
  | .cancelRoute r => some (0x0A, r.bytes)
  | .reclear r => some (0x0B, r.bytes)
  | .timedRelease r => some (0x0C, r.bytes)
  | .movePoints e p => some (0x0D, e.bytes ++ [p])
  | .block e => some (0x0E, e.bytes)
  | .unblock e => some (0x0F, e.bytes)
  | .queryElement e t => some (0x10, e.bytes ++ [t])
  | .queryRoute r => some (0x11, r.bytes)
  | .queryClaim k n => some (0x12, k :: n.bytes)
  | .queryLine l => some (0x13, [l])
  | .setLinePolicy l p => some (0x14, [l, p])
  | .answerOffer l d => some (0x15, [l, d])
  | .lineReset l => some (0x16, [l])
  | .linkControlReport s p i => some (0x17, [s, 0, p, i])
  | .linkControlEnable s p i => some (0x17, [s, 1, p, i])
  | .linkControlDisable s p i => some (0x17, [s, 2, p, i])
  | .linkControlMap s p i => some (0x17, [s, 3, p, i])
  | .readNotices => some (0x18, [])
  | .setNoticeEnables e m => some (0x19, e.bytes ++ [m])
  | .nextOutcome => some (0x1A, [])
  | .nextFault => some (0x1B, [])
  | .readCounters c => some (0x1C, [c])
  | _ => none

/-- The frame of a kind and its parameters (R182). -/
def frameOf (kind : Byte) (ps : List Byte) : List Byte :=
  kind :: BitVec.ofNat 8 ps.length :: (ps ++ Word.bytes (crc16 (kind :: BitVec.ofNat 8 ps.length :: ps)))

/-- The frame a request is sent in. -/
def requestFrame (c : Instr) : Option (List Byte) :=
  (requestParams c).map fun p => frameOf p.1 p.2

/-- No row of spec/opcode_table.json gives bits: no word spells a command. -/
def decodeTableWord (_nbits _w : Nat) : Option Instr := none

end Sys2Proof
end

