-- ==== Sys2Proof/Machine/State.lean ====
section
/-! DEFINITION. The state of the device as plain data, block by block (00_scope 2), its faults and refusals,
and the state after power-on reset. A record is held in a `Table` under its identifier; an identifier that
is not listed has no record, or has the default the block's read operation names. -/

namespace Sys2Proof.Machine

/-- Records by identifier, in ascending identifiers. -/
abbrev Table (α : Type) := List (Nat × α)

/-- The topology store's bytes: ascending addresses, no byte equal to the erased value (Ops: `Memory.wf`). -/
abbrev Memory := List Host.Cell

/-- The reasons of R194, in code order. -/
inductive Reason where
  | notDefined | active | duplicate | queueFull | unavailable | entryHeld | blocked | locked | occupied
  | unknown | claimed | linkDown | flank | recordsFull | claimTableFull | notPoints | withdrawn
  | sectionNotClear | moving | notActive | notLocked | conditions | inUse | releasing | notOff | portInUse
  | noOffer | linkUp | routeSet | resetting | range | frozen | programLimit
  | throwFailed | direction | directionLost | declined | handoverTimeout | notDetected | notClear
  | flankLost | notAccepted | remoteNotClear | notProven | signalLost | halted | passage
  | enteredDuringHold | lockLost
  | offerLive | transit | borderNotClear | lineWithdrawn | notIn | borderOutOfService | borderLocked
  | borderClaimed | entrySignal | policy | host | hostTimeout | noItem | conflict | tableFull | timeout
  | codeError | check | sequence | unexpected | length | errors | silence | peerRestart | disabled | wrongPeer
  | wrongAddressee | level | lineCount
  | headerNotFrozen | headerWithdrawn | headerAreaId | portMap | peerId | lineIndex | badReference | badKind
  | badLength | badForm | boundaryLine
  deriving DecidableEq, Repr

/-- The four modes (00_scope 5.5). -/
inductive Mode where
  | configuration | starting | operating | halted
  deriving DecidableEq, Repr

/-! Command port (ch. 10). -/

/-- The frame receiver (R182, R183). -/
inductive Receiver where
  | idle | receiving | answering
  deriving DecidableEq, Repr

/-- A response frame's status and data (R183); marker, length and CRC follow from them. -/
structure Answer where
  status : Byte
  data : List Byte
  deriving DecidableEq, Repr

/-- Receiver, response being sent, nine latches, nine enables, master enable (R182, R183, R186, R187). -/
structure Port where
  receiver : Receiver
  answer : Option Answer
  latches : BitVec 9
  enables : BitVec 9
  master : Bool
  deriving DecidableEq, Repr

/-! Topology store (ch. 9). -/

/-- The condition of a frozen segment (R169). -/
inductive Condition where
  | good | marginal | withdrawn
  deriving DecidableEq, Repr

/-- The class of a read (R173). -/
inductive ReadClass where
  | clean | correctedLow | correctedHigh | uncorrectable
  deriving DecidableEq, Repr

/-- A segment's hidden area and condition (R168, R169), and the bit places (bit 7 of byte 0 is place 0) whose
stored bits have decayed since the freeze (log 8). -/
structure Segment where
  count : Nat
  frozen : Bool
  condition : Condition
  lastClass : ReadClass
  flips : List Nat
  deriving DecidableEq, Repr

/-- The store operation in flight (R172). -/
inductive StoreOp where
  | program (segment offset : Nat) (data : List Byte)
  | freeze (segment : Nat)
  deriving DecidableEq, Repr

/-- The last start result, when present (R176). -/
inductive StartResult where
  | succeeded
  | failed (segment place : Nat) (reason : Reason)
  deriving DecidableEq, Repr

structure Store where
  mem : Memory
  segments : Table Segment
  op : Option StoreOp
  lastStart : Option StartResult
  scanPosition : Nat
  scanTimer : Timer
  deriving DecidableEq, Repr

/-! Element store and the field timers (ch. 1, 2). -/

inductive Position where
  | normal | reverse
  deriving DecidableEq, Repr

inductive Occupancy where
  | clear | occupied | unknown
  deriving DecidableEq, Repr

inductive Detection where
  | noDetection | normal | reverse | unknown
  deriving DecidableEq, Repr

inductive Aspect where
  | stop | proceed
  deriving DecidableEq, Repr

inductive Shown where
  | stop | proceed | dark | unknown
  deriving DecidableEq, Repr

/-- The state an element is held in by a claim (R70). -/
inductive Demand where
  | pointsNormal | pointsReverse | signalStop | sectionClear
  deriving DecidableEq, Repr

/-- A remote item image (R18). -/
inductive ItemImage where
  | nothing | satisfied | unsatisfied | unknown
  deriving DecidableEq, Repr

inductive Role where
  | path | overlap
  deriving DecidableEq, Repr

/-- A lock holder (R9). -/
inductive Lock where
  | route (slot : Nat) (role : Role)
  | entry (line : Nat)
  deriving DecidableEq, Repr

/-- The eight fault flags (R12). -/
structure Faults where
  throwFailed : Bool := false
  detectionLost : Bool := false
  unsolicitedMove : Bool := false
  notProven : Bool := false
  wrongAspect : Bool := false
  dark : Bool := false
  supervisionLost : Bool := false
  kindMismatchSeen : Bool := false
  deriving DecidableEq, Repr

/-- SECTION (R2, R14, R29). Numeric static fields are kept as stored. -/
structure SectionBody where
  length : Word
  timeout : Byte
  occupancy : Occupancy := .unknown
  supervision : Timer := none
  deriving DecidableEq, Repr

/-- POINTS (R3, R15, R16, R29, R33, R35). The elapsed throw time is the limit less the throw timer. -/
structure PointsBody where
  containing : Nat
  throwLimit : Byte
  timeout : Byte
  detection : Detection := .unknown
  demanded : Option Position := none
  moving : Bool := false
  throwTimer : Timer := none
  captureValue : Nat := 0
  captureHeld : Bool := false
  captureMissed : Bool := false
  supervision : Timer := none
  refresh : Timer := none
  deriving DecidableEq, Repr

/-- SIGNAL (R3, R17, R29, R33, R39). -/
structure SignalBody where
  provingTime : Byte
  timeout : Byte
  demanded : Aspect := .stop
  shown : Shown := .unknown
  proven : Bool := false
  proving : Timer := none
  returnWindow : Timer := none
  supervision : Timer := none
  refresh : Timer := none
  deriving DecidableEq, Repr

/-- BOUNDARY (R2, R18). -/
structure BoundaryBody where
  line : Nat
  remoteLength : Word
  image : Occupancy := .unknown
  items : List ItemImage := List.replicate 8 .unknown
  deriving DecidableEq, Repr

/-- The kind with its static and kind-state fields; `none` for a record withdrawn at START (R8). -/
inductive Body where
  | sect (b : SectionBody)
  | points (b : PointsBody)
  | signal (b : SignalBody)
  | boundary (b : BoundaryBody)
  | none
  deriving DecidableEq, Repr

/-- An element record (R1 to R18). The segment of origin and the field object address are static fields (R2): a record
withdrawn at START has none (R8). -/
structure Element where
  segment : Option Nat
  address : Option Word
  blocked : Bool := false
  withdrawn : Bool := false
  lock : Option Lock := none
  claim : Option Nat := none
  faults : Faults := {}
  body : Body
  deriving DecidableEq, Repr

/-! Field interface (ch. 2). -/

structure MapEntry where
  matchValue : Word
  mask : Word
  base : Word
  window : Word
  deriving DecidableEq, Repr

inductive DemandKind where
  | points | signal
  deriving DecidableEq, Repr

/-- An entry of the pending demand set (R31); its element id is its key. -/
structure PendingDemand where
  kind : DemandKind
  address : Word
  deriving DecidableEq, Repr

/-- Map, pending demand set, element last sent, counters (R25, R31, R32, R44), and the telegrams sent and not
yet read at the far end (the model's own, log 17). -/
structure Field where
  map : List MapEntry
  demands : Table PendingDemand
  lastSent : Nat
  unmapped : Nat
  kindMismatch : Nat
  badCheck : Nat
  out : List (List Byte)
  deriving DecidableEq, Repr

/-! Route setter (ch. 3). -/

/-- A path or overlap entry: a POINTS entry has a required position (R46). -/
structure PathEntry where
  element : Nat
  position : Option Position
  deriving DecidableEq, Repr

/-- A route definition (R46); `line` is the line of a boundary route. -/
structure Definition where
  entry : Nat
  exit : Nat
  line : Option Nat
  priority : Nat
  path : List PathEntry
  overlap : List PathEntry
  beyond : Option Nat
  approach : List Nat
  speed : Byte
  margin : Word
  tMin : Byte
  tMax : Word
  overlapTime : Byte
  flanks : List (Nat × Nat)
  deriving DecidableEq, Repr

/-- A last outcome (R66). -/
inductive RouteOutcome where
  | set
  | failed (reason : Reason) (element : Option Nat)
  | storageTimeout (reason : Reason) (element : Option Nat)
  | cancelled
  | released
  deriving DecidableEq, Repr

/-- A route table entry that is UNAVAILABLE or AVAILABLE (R45, R66). A NOT_DEFINED id has no entry. -/
structure RouteEntry where
  available : Bool
  definition : Option Definition
  outcome : Option RouteOutcome := none
  unread : Bool := false
  deriving DecidableEq, Repr

/-- A request queue entry (R61). -/
structure QueueEntry where
  route : Nat
  hold : Bool
  timer : Timer
  reason : Reason
  element : Option Nat
  deriving DecidableEq, Repr

/-- Route table, queue in arrival order, and the retry triggers handed within the present command (log 6). -/
structure Setter where
  table : Table RouteEntry
  queue : List QueueEntry
  triggers : Nat
  deriving DecidableEq, Repr

/-! Route supervisor (ch. 5, 6). -/

inductive RecordState where
  | setting | handoverWait | locked | clearing | cleared | inUse | approachHold | timedRelease
  deriving DecidableEq, Repr

inductive OverlapStatus where
  | held | timing | overrun | released
  deriving DecidableEq, Repr

/-- A release step (R47). -/
structure Step where
  sect : Nat
  points : List (Nat × Position)
  deriving DecidableEq, Repr

inductive RefState where
  | held | localPending | remotePending | released
  deriving DecidableEq, Repr

/-- A flank reference (R71); its index is its place in the list. -/
structure FlankRef where
  group : Nat
  tied : Nat
  alternative : Option Nat
  state : RefState
  deriving DecidableEq, Repr

inductive HandoverStatus where
  | direction | offered | accepted | passed
  deriving DecidableEq, Repr

structure Handover where
  line : Nat
  offer : Option Byte
  status : HandoverStatus
  deriving DecidableEq, Repr

/-- A route record (R57, R94); its slot is its key. -/
structure RouteRecord where
  route : Nat
  state : RecordState
  hold : Bool
  shownProceed : Bool := false
  replaced : Option (Reason × Nat) := none
  steps : List Step
  frontSeen : Bool := false
  overlapStatus : OverlapStatus
  overlapTimer : Timer := none
  flanks : List FlankRef
  handover : Option Handover := none
  holdTimer : Timer := none
  discrepancy : Bool := false
  definition : Definition
  deriving DecidableEq, Repr

/-! Flank unit (ch. 4). -/

inductive Alternative where
  | localAlt (element : Nat) (demand : Demand)
  | remoteAlt (line item : Nat)
  deriving DecidableEq, Repr

/-- A flank group that is UNAVAILABLE or AVAILABLE (R69, R70). A NOT_DEFINED id has no entry. -/
structure Group where
  available : Bool
  protectedElement : Nat
  position : Position
  alternatives : List Alternative
  deriving DecidableEq, Repr

inductive GrantState where
  | owed | granted | denied
  deriving DecidableEq, Repr

/-- A claim holder (R72). A NEIGHBOUR holder's use count is always 1. -/
inductive Holder where
  | route (slot uses : Nat)
  | neighbour (line item : Nat) (ask : Byte) (grant : GrantState)
  deriving DecidableEq, Repr

structure Claim where
  element : Nat
  demand : Demand
  holders : List Holder
  satisfied : Bool
  move : Bool
  deriving DecidableEq, Repr

inductive ItemState where
  | idle | asked | granted | freeOwed | stale
  deriving DecidableEq, Repr

/-- A remote item entry (R78); its key is 8 times the line plus the item index. -/
structure RemoteItem where
  state : ItemState := .idle
  ask : Byte := 0
  refs : List (Nat × Nat) := []
  askTimer : Timer := none
  sweepHold : Timer := none
  lastReason : Byte := 0
  deriving DecidableEq, Repr

structure Flank where
  groups : Table Group
  claims : Table Claim
  items : Table RemoteItem
  nextAsk : Table Byte
  deriving DecidableEq, Repr

/-! Link ports (ch. 7). -/

inductive LinkState where
  | off | holdoff | hunt | ident | up
  deriving DecidableEq, Repr

/-- The kinds of R130 that pass through a transmit list, with their payloads. -/
inductive Payload where
  | lineImage
  | dirAsk (word : Word)
  | dirYield
  | dirRefuse (reason : Byte)
  | offer (number : Byte)
  | accept (number : Byte)
  | decline (number reason : Byte)
  | withdraw (number : Byte)
  | passed (number : Byte)
  | flankAsk (item ask : Byte)
  | flankGrant (item ask : Byte) (satisfied : Bool)
  | flankDeny (item ask reason : Byte)
  | flankFree (item ask : Byte) (sweep : Bool)
  deriving DecidableEq, Repr

/-- A telegram handed to a slot for one of its lines (R131). -/
structure Telegram where
  line : Nat
  payload : Payload
  deriving DecidableEq, Repr

/-- A slot record (R126) with its timers (R145), transmit list (R131), the keep-alive IDENT that is due (R140)
and the characters sent and not yet read at the far end (the model's own, log 17). -/
structure LinkSlot where
  enabled : Bool := false
  port : Option Nat := none
  inverted : Bool := false
  expected : Word := 0
  threshold : Byte := 0
  lines : List Nat := []
  link : LinkState := .off
  restartPending : Bool := true
  peerRestart : Bool := false
  answerMark : Bool := false
  sync : Nat := 0
  txSequence : Byte := 0
  rxSequence : Option Byte := none
  level : Nat := 0
  goodRun : Nat := 0
  errors : Nat := 0
  drops : Nat := 0
  lastError : Option Reason := none
  lastDrop : Option Reason := none
  mismatch : Option Reason := none
  holdoff : Timer := none
  identTimer : Timer := none
  sendInterval : Timer := none
  silence : Timer := none
  image : Timer := none
  transmit : List Telegram := []
  keepAlive : Bool := false
  out : List LinkChar := []
  deriving DecidableEq, Repr

/-! Boundary unit (ch. 8). -/

/-- A direction a token can rest at (R148). -/
inductive Direction where
  | unset | outward | inward
  deriving DecidableEq, Repr

inductive Token where
  | rest (d : Direction)
  | asking (prior : Direction)
  deriving DecidableEq, Repr

inductive TokenView where
  | unset | outward | inward | asking | unknown
  deriving DecidableEq, Repr

structure DirAsk where
  slot : Nat
  word : Word
  deadline : Timer
  deriving DecidableEq, Repr

inductive OfferState where
  | offered | accepted | lapsed | withdrawOwed
  deriving DecidableEq, Repr

structure OutOffer where
  number : Byte
  slot : Option Nat
  state : OfferState
  deadline : Timer
  deriving DecidableEq, Repr

structure InOffer where
  number : Byte
  accepted : Bool
  passed : Bool
  deadline : Timer
  deriving DecidableEq, Repr

inductive Policy where
  | autoAccept | askHost | autoDecline
  deriving DecidableEq, Repr

/-- A line record (R146). A line withdrawn at START has no slot and no description. -/
structure Line where
  slot : Option Nat
  index : Nat
  boundary : Option Nat
  border : Nat
  entrySignal : Nat
  items : List (Nat × Demand)
  withdrawn : Bool := false
  token : Token := .rest .unset
  ask : Option DirAsk := none
  outOffer : Option OutOffer := none
  nextOffer : Byte := 0
  inOffer : Option InOffer := none
  transit : Bool := false
  view : TokenView := .unknown
  conflict : Bool := false
  policy : Policy
  lastReason : Byte := 0
  resetTimer : Timer := none
  deriving DecidableEq, Repr

/-- The state of the device. `areaId` is the area id in use (R190), `fresh` counts free values (log 33),
`pending` holds the commands that wait, the oldest first. -/
structure State where
  mode : Mode
  areaId : Word
  cp : Port
  ts : Store
  es : Table Element
  fi : Field
  rse : Setter
  rsv : Table RouteRecord
  fu : Flank
  lk : Table LinkSlot
  bu : Table Line
  fresh : Nat
  pending : List Instr
  deriving DecidableEq, Repr

/-- No command of the device ends in a fault: the manual gives every command an effect in every state. -/
inductive Fault where
  deriving DecidableEq, Repr

/-- Why a step has no answer. -/
inductive Refusal where
  /-- Raised by an arm of `exec` whose command has no meaning yet; safe. No arm does. -/
  | notModelled (mnemonic : String)
  deriving DecidableEq, Repr

/-- After power-on reset (R22, R25, R34, R44, R45, R61, R93, R112, R145, R167, R169, R176, R193). The store is
erased (log 9); the values no rule gives are those of log 22. -/
def State.reset : State where
  mode := .configuration
  areaId := 0
  cp := { receiver := .idle, answer := none, latches := 0, enables := 0, master := false }
  ts := { mem := [], segments := [], op := none, lastStart := none, scanPosition := 0, scanTimer := none }
  es := []
  fi := { map := [], demands := [], lastSent := 511, unmapped := 0, kindMismatch := 0, badCheck := 0, out := [] }
  rse := { table := [], queue := [], triggers := 0 }
  rsv := []
  fu := { groups := [], claims := [], items := [], nextAsk := [] }
  lk := [(0, {}), (1, {}), (2, {}), (3, {})]
  bu := []
  fresh := 0
  pending := []

end Sys2Proof.Machine
end

