-- ==== Sys2Proof/Machine/Operands.lean ====
section
/-! DEFINITION. Codes, clamps and ranges: the one-byte codes of R194, the clamps of R2, R3, R25, R118 and R126,
and the conversions between stored values and the states they name. -/

namespace Sys2Proof.Machine

/-- The code of a reason (R194). -/
def Reason.code : Reason → Byte
  | .notDefined => 0x01 | .active => 0x02 | .duplicate => 0x03 | .queueFull => 0x04 | .unavailable => 0x05
  | .entryHeld => 0x06 | .blocked => 0x07 | .locked => 0x08 | .occupied => 0x09 | .unknown => 0x0A
  | .claimed => 0x0B | .linkDown => 0x0C | .flank => 0x0D | .recordsFull => 0x0E | .claimTableFull => 0x0F
  | .notPoints => 0x10 | .withdrawn => 0x11 | .sectionNotClear => 0x12 | .moving => 0x13 | .notActive => 0x14
  | .notLocked => 0x15 | .conditions => 0x16 | .inUse => 0x17 | .releasing => 0x18 | .notOff => 0x19
  | .portInUse => 0x1A | .noOffer => 0x1B | .linkUp => 0x1C | .routeSet => 0x1D | .resetting => 0x1E
  | .range => 0x1F | .frozen => 0x20 | .programLimit => 0x21
  | .throwFailed => 0x40 | .direction => 0x41 | .directionLost => 0x42 | .declined => 0x43
  | .handoverTimeout => 0x44 | .notDetected => 0x45 | .notClear => 0x46 | .flankLost => 0x47
  | .notAccepted => 0x48 | .remoteNotClear => 0x49 | .notProven => 0x4A | .signalLost => 0x4B | .halted => 0x4C
  | .passage => 0x4D | .enteredDuringHold => 0x4E | .lockLost => 0x4F
  | .offerLive => 0x60 | .transit => 0x61 | .borderNotClear => 0x62 | .lineWithdrawn => 0x63 | .notIn => 0x64
  | .borderOutOfService => 0x65 | .borderLocked => 0x66 | .borderClaimed => 0x67 | .entrySignal => 0x68
  | .policy => 0x69 | .host => 0x6A | .hostTimeout => 0x6B | .noItem => 0x6C | .conflict => 0x6D
  | .tableFull => 0x6E | .timeout => 0x6F
  | .codeError => 0x80 | .check => 0x81 | .sequence => 0x82 | .unexpected => 0x83 | .length => 0x84
  | .errors => 0x85 | .silence => 0x86 | .peerRestart => 0x87 | .disabled => 0x88 | .wrongPeer => 0x89
  | .wrongAddressee => 0x8A | .level => 0x8B | .lineCount => 0x8C
  | .headerNotFrozen => 0xA0 | .headerWithdrawn => 0xA1 | .headerAreaId => 0xA2 | .portMap => 0xA3
  | .peerId => 0xA4 | .lineIndex => 0xA5 | .badReference => 0xA6 | .badKind => 0xA7 | .badLength => 0xA8
  | .badForm => 0xA9 | .boundaryLine => 0xAA

/-- `x` taken as `lo` below it and as `hi` above it. -/
def clampTo (lo hi x : Nat) : Nat := max lo (min hi x)

/-- A supervision timeout in effect, in tenths (R2). -/
def supervisionTime (stored : Byte) : Nat := clampTo 5 50 stored.toNat
/-- A section or remote section length in effect, in metres (R2). -/
def lengthInEffect (stored : Word) : Nat := clampTo 1 4000 stored.toNat
/-- A throw limit in effect, in tenths (R3). -/
def throwTime (stored : Byte) : Nat := clampTo 10 150 stored.toNat
/-- A proving time in effect, in tenths (R3). -/
def provingTenths (stored : Byte) : Nat := clampTo 5 30 stored.toNat
/-- A map entry's window as FI takes it (R25). -/
def windowInEffect (stored : Word) : Nat := if stored = 0xFFFF then 0 else min 256 stored.toNat
/-- A slot's error threshold in effect (R126). -/
def thresholdInEffect (stored : Byte) : Nat := clampTo 1 15 stored.toNat
/-- The approach speed in effect, in km/h (R118). -/
def speedInEffect (stored : Byte) : Nat := clampTo 10 200 stored.toNat
/-- The margin in effect, in tenths (R118). -/
def marginInEffect (stored : Word) : Nat := min 600 stored.toNat
/-- T_min', in seconds (R118). -/
def tMinInEffect (stored : Byte) : Nat := min 60 stored.toNat
/-- T_max', in seconds (R118): the greater of the clamped T_max and T_min'. -/
def tMaxInEffect (stored : Word) (storedMin : Byte) : Nat :=
  max (clampTo 30 600 stored.toNat) (tMinInEffect storedMin)

/-- A position's code, in a request, a description or a telegram (R194). -/
def Position.code : Position → Byte
  | .normal => 1 | .reverse => 2
def positionOf (b : Byte) : Option Position :=
  match b.toNat with
  | 1 => some .normal | 2 => some .reverse | _ => none
/-- The detection that is in a position (R15). -/
def Position.detection : Position → Detection
  | .normal => .normal | .reverse => .reverse
def Position.opposite : Position → Position
  | .normal => .reverse | .reverse => .normal

def Occupancy.code : Occupancy → Byte
  | .clear => 0 | .occupied => 1 | .unknown => 2
/-- An occupancy received: SECTION_STATUS (R28; DISTURBED 02h is written UNKNOWN) or LINE_IMAGE (R161, R194). -/
def occupancyOf (b : Byte) : Occupancy :=
  match b.toNat with
  | 0 => .clear | 1 => .occupied | _ => .unknown
def Detection.code : Detection → Byte
  | .noDetection => 0 | .normal => 1 | .reverse => 2 | .unknown => 3
/-- A POINTS_STATUS value as written (R28). -/
def detectionOf (b : Byte) : Detection :=
  match b.toNat with
  | 1 => .normal | 2 => .reverse | _ => .noDetection
/-- Whether a detection is in some position (R15). -/
def Detection.inPosition : Detection → Bool
  | .normal => true | .reverse => true | _ => false
def Aspect.code : Aspect → Byte
  | .stop => 0 | .proceed => 1
def Shown.code : Shown → Byte
  | .stop => 0 | .proceed => 1 | .dark => 2 | .unknown => 3
/-- A SIGNAL_STATUS value as written (R28). -/
def shownOf (b : Byte) : Shown :=
  match b.toNat with
  | 0 => .stop | 1 => .proceed | _ => .dark

def Demand.code : Demand → Byte
  | .pointsNormal => 1 | .pointsReverse => 2 | .signalStop => 3 | .sectionClear => 4
def demandOf (b : Byte) : Option Demand :=
  match b.toNat with
  | 1 => some .pointsNormal | 2 => some .pointsReverse | 3 => some .signalStop | 4 => some .sectionClear
  | _ => none
/-- The position a claim demands of points. -/
def Demand.position : Demand → Option Position
  | .pointsNormal => some .normal | .pointsReverse => some .reverse | _ => none
def claimFor : Position → Demand
  | .normal => .pointsNormal | .reverse => .pointsReverse

def ItemImage.code : ItemImage → Byte
  | .nothing => 0 | .satisfied => 1 | .unsatisfied => 2 | .unknown => 3
/-- A LINE_IMAGE item value as written (R194). -/
def itemImageOf (b : Byte) : ItemImage :=
  match b.toNat with
  | 0 => .nothing | 1 => .satisfied | 2 => .unsatisfied | _ => .unknown

def Direction.code : Direction → Byte
  | .unset => 0 | .outward => 1 | .inward => 2
def Token.code : Token → Byte
  | .rest d => d.code
  | .asking _ => 3
/-- The token of a LINE_IMAGE as the view it is written as (R161, R194). -/
def viewOf (b : Byte) : TokenView :=
  match b.toNat with
  | 0 => .unset | 1 => .outward | 2 => .inward | 3 => .asking | _ => .unknown
def TokenView.code : TokenView → Byte
  | .unset => 0 | .outward => 1 | .inward => 2 | .asking => 3 | .unknown => 4

def Policy.code : Policy → Byte
  | .autoAccept => 0 | .askHost => 1 | .autoDecline => 2
def policyOf (b : Byte) : Option Policy :=
  match b.toNat with
  | 0 => some .autoAccept | 1 => some .askHost | 2 => some .autoDecline | _ => none

/-- The claim word of a route's direction ask (R149). -/
def claimWord (priority : Nat) (areaId : Word) : Word :=
  BitVec.ofNat 16 ((15 - min 3 priority) * 4096 + areaId.toNat)

/-- A port code: 00h to 03h for P0 to P3 (R194). -/
def portOf (b : Byte) : Option Nat := if b.toNat < 4 then some b.toNat else none

/-- The check byte of a field telegram (R23). -/
def fieldCheck (kind : Byte) (address : Word) (value : Byte) : Byte :=
  ~~~(kind ^^^ address.extractLsb' 8 8 ^^^ address.extractLsb' 0 8 ^^^ value)

/-- The kind byte of a link telegram (R194). -/
def Payload.kind : Payload → Byte
  | .lineImage => 0x02 | .dirAsk _ => 0x03 | .dirYield => 0x04 | .dirRefuse _ => 0x05 | .offer _ => 0x06
  | .accept _ => 0x07 | .decline _ _ => 0x08 | .withdraw _ => 0x09 | .passed _ => 0x0A | .flankAsk _ _ => 0x0B
  | .flankGrant _ _ _ => 0x0C | .flankDeny _ _ _ => 0x0D | .flankFree _ _ _ => 0x0E

/-- A mark, flag or option in an answer (R194). -/
def flagByte (b : Bool) : Byte := if b then 1 else 0

/-- The payload bytes of a telegram other than LINE_IMAGE, whose contents are read when it is built (R131). -/
def Payload.bytes : Payload → List Byte
  | .lineImage => []
  | .dirAsk w => w.bytes
  | .dirYield => []
  | .dirRefuse r => [r]
  | .offer n | .accept n | .withdraw n | .passed n => [n]
  | .decline n r => [n, r]
  | .flankAsk k a => [k, a]
  | .flankGrant k a sat => [k, a, flagByte sat]
  | .flankDeny k a r => [k, a, r]
  | .flankFree k a sweep => [k, a, flagByte sweep]

/-- The payload length of each of the 14 kinds (R130); none for another kind. -/
def payloadLength (kind : Byte) : Option Nat :=
  match kind.toNat with
  | 0x01 => some 7 | 0x02 => some 10 | 0x03 => some 2 | 0x04 => some 0 | 0x05 => some 1
  | 0x06 => some 1 | 0x07 => some 1 | 0x08 => some 2 | 0x09 => some 1 | 0x0A => some 1
  | 0x0B => some 2 | 0x0C => some 3 | 0x0D => some 3 | 0x0E => some 3 | _ => none

end Sys2Proof.Machine
end

