-- ==== Sys2Proof/Machine/Ops.lean ====
section
/-! DEFINITION. The named operations over records and the topology store: tables, reads and updates of one
record, answers of the command port, retry triggers and the handing of telegrams to a slot. -/

namespace Sys2Proof.Machine

/-! Tables. -/

/-- The record under identifier `k`. -/
def Table.find {α : Type} : Table α → Nat → Option α
  | [], _ => none
  | (i, a) :: r, k => if i = k then some a else Table.find r k

/-- The table with the record under `k`, if any, changed by `f`. -/
def Table.adjust {α : Type} (t : Table α) (k : Nat) (f : α → α) : Table α :=
  t.map fun p => if p.1 = k then (p.1, f p.2) else p

/-- The table with record `a` under `k`. -/
def Table.put {α : Type} : Table α → Nat → α → Table α
  | [], k, a => [(k, a)]
  | (i, b) :: r, k, a =>
    if k < i then (k, a) :: (i, b) :: r
    else if k = i then (k, a) :: r
    else (i, b) :: Table.put r k a

/-- The table without a record under `k`. -/
def Table.remove {α : Type} (t : Table α) (k : Nat) : Table α := t.filter fun p => p.1 != k

/-- The lowest identifier below `limit` with no record. -/
def Table.lowestFree {α : Type} (t : Table α) (limit : Nat) : Option Nat :=
  (List.range limit).find? fun k => (t.find k).isNone

/-- `f` applied to the state once for each listed key, in order. -/
def forEach {α : Type} (keys : List α) (f : α → State → State) (s : State) : State :=
  keys.foldl (fun s k => f k s) s

/-! The topology store's bytes. -/

/-- The erased value of a byte (R168). -/
def erased : Byte := 0xFF

/-- What address `a` reads as; an address not listed is erased. -/
def Memory.read : Memory → Nat → Byte
  | [], _ => erased
  | (i, b) :: r, a => if i = a then b else Memory.read r a

/-- Byte `b` at address `a`, in canonical form. -/
def Memory.write : Memory → Nat → Byte → Memory
  | [], a, b => if b = erased then [] else [(a, b)]
  | (i, c) :: r, a, b =>
    if a < i then (if b = erased then (i, c) :: r else (a, b) :: (i, c) :: r)
    else if a = i then (if b = erased then r else (a, b) :: r)
    else (i, c) :: Memory.write r a b

/-- The canonical form: strictly rising addresses, no erased byte listed. -/
def Memory.wf : Memory → Bool
  | [] => true
  | (i, c) :: r => c != erased && r.all (fun p => decide (i < p.1)) && Memory.wf r

/-- The `n` bytes from address `a` on. -/
def Memory.bytes (m : Memory) (a n : Nat) : List Byte := (List.range n).map fun i => m.read (a + i)

/-- The address of an offset within a segment (R168). -/
def storeAddress (segment offset : Nat) : Nat := Config.segmentBytes * segment + offset

/-- Each byte ANDed into the store from address `a` on (R170). -/
def Memory.andBytes : Memory → Nat → List Byte → Memory
  | m, _, [] => m
  | m, a, b :: bs => Memory.andBytes (m.write a (m.read a &&& b)) (a + 1) bs

/-- As `andBytes`, but a byte for which `keep` holds stays at its old value: a program cut short (R172). -/
def Memory.andTorn : Memory → Nat → List Byte → (Nat → Bool) → Nat → Memory
  | m, _, [], _, _ => m
  | m, a, b :: bs, keep, i =>
    Memory.andTorn (if keep i then m else m.write a (m.read a &&& b)) (a + 1) bs keep (i + 1)

/-- A segment never programmed nor frozen. -/
def Segment.erased : Segment :=
  { count := 0, frozen := false, condition := .good, lastClass := .clean, flips := [] }

def State.segment (s : State) (g : Nat) : Segment := (s.ts.segments.find g).getD .erased
def State.setSegment (s : State) (g : Nat) (r : Segment) : State :=
  { s with ts := { s.ts with segments := s.ts.segments.put g r } }
def State.modSegment (s : State) (g : Nat) (f : Segment → Segment) : State := s.setSegment g (f (s.segment g))

/-! One record of each table: read and update. -/

def State.element (s : State) (e : Nat) : Option Element := s.es.find e
def State.modElement (s : State) (e : Nat) (f : Element → Element) : State := { s with es := s.es.adjust e f }

def State.sectionAt (s : State) (e : Nat) : Option SectionBody :=
  match s.element e with
  | some r => match r.body with | .sect b => some b | _ => none
  | none => none
def State.pointsAt (s : State) (e : Nat) : Option PointsBody :=
  match s.element e with
  | some r => match r.body with | .points b => some b | _ => none
  | none => none
def State.signalAt (s : State) (e : Nat) : Option SignalBody :=
  match s.element e with
  | some r => match r.body with | .signal b => some b | _ => none
  | none => none
def State.boundaryAt (s : State) (e : Nat) : Option BoundaryBody :=
  match s.element e with
  | some r => match r.body with | .boundary b => some b | _ => none
  | none => none

def State.modSection (s : State) (e : Nat) (f : SectionBody → SectionBody) : State :=
  s.modElement e fun r => match r.body with | .sect b => { r with body := .sect (f b) } | _ => r
def State.modPoints (s : State) (e : Nat) (f : PointsBody → PointsBody) : State :=
  s.modElement e fun r => match r.body with | .points b => { r with body := .points (f b) } | _ => r
def State.modSignal (s : State) (e : Nat) (f : SignalBody → SignalBody) : State :=
  s.modElement e fun r => match r.body with | .signal b => { r with body := .signal (f b) } | _ => r
def State.modBoundary (s : State) (e : Nat) (f : BoundaryBody → BoundaryBody) : State :=
  s.modElement e fun r => match r.body with | .boundary b => { r with body := .boundary (f b) } | _ => r

/-- Whether the element is WITHDRAWN (R4); an id without a record is not. -/
def State.isWithdrawn (s : State) (e : Nat) : Bool := (s.element e).any (·.withdrawn)
/-- The lock holder of an element. -/
def State.lockOf (s : State) (e : Nat) : Option Lock := (s.element e).bind (·.lock)
/-- The occupancy of a section; an id that is no section is UNKNOWN. -/
def State.occupancy (s : State) (e : Nat) : Occupancy := ((s.sectionAt e).map (·.occupancy)).getD .unknown
/-- The detection of points; an id that is no points is UNKNOWN. -/
def State.detection (s : State) (e : Nat) : Detection := ((s.pointsAt e).map (·.detection)).getD .unknown
/-- The shown aspect of a signal; an id that is no signal is UNKNOWN. -/
def State.shown (s : State) (e : Nat) : Shown := ((s.signalAt e).map (·.shown)).getD .unknown
/-- The remote section image of a BOUNDARY element. -/
def State.remoteImage (s : State) (e : Nat) : Occupancy := ((s.boundaryAt e).map (·.image)).getD .unknown

def State.routeRecord (s : State) (slot : Nat) : Option RouteRecord := s.rsv.find slot
def State.modRecord (s : State) (slot : Nat) (f : RouteRecord → RouteRecord) : State :=
  { s with rsv := s.rsv.adjust slot f }
/-- The slot of the active record of a route id, with the record. -/
def State.activeRecord (s : State) (route : Nat) : Option (Nat × RouteRecord) :=
  s.rsv.find? fun p => p.2.route == route
/-- The slots in use, ascending. -/
def State.slots (s : State) : List Nat := s.rsv.map (·.1)

def State.claimRecord (s : State) (n : Nat) : Option Claim := s.fu.claims.find n
def State.modClaim (s : State) (n : Nat) (f : Claim → Claim) : State :=
  { s with fu := { s.fu with claims := s.fu.claims.adjust n f } }
/-- The claim on an element by its claim reference (R11), with its number. -/
def State.claimOn (s : State) (e : Nat) : Option (Nat × Claim) :=
  match (s.element e).bind (·.claim) with
  | some n => (s.claimRecord n).map fun c => (n, c)
  | none => none

/-- The key of a remote item entry. -/
def itemKey (line item : Nat) : Nat := Config.items * line + item
/-- The remote item entry of a line and item index; there is none for an index above 7 (R78), which reads IDLE and keeps
nothing. -/
def State.item (s : State) (line item : Nat) : RemoteItem :=
  if item < Config.items then (s.fu.items.find (itemKey line item)).getD {} else {}
def State.setItem (s : State) (line item : Nat) (r : RemoteItem) : State :=
  { s with fu := { s.fu with
      items := if item < Config.items then s.fu.items.put (itemKey line item) r else s.fu.items } }

def State.line (s : State) (l : Nat) : Option Line := s.bu.find l
def State.modLine (s : State) (l : Nat) (f : Line → Line) : State := { s with bu := s.bu.adjust l f }

def State.slot (s : State) (n : Nat) : Option LinkSlot := s.lk.find n
def State.modSlot (s : State) (n : Nat) (f : LinkSlot → LinkSlot) : State := { s with lk := s.lk.adjust n f }
/-- Whether the slot that carries a line is UP. -/
def State.lineUp (s : State) (l : Nat) : Bool :=
  ((s.line l).bind fun r => r.slot.bind fun n => s.slot n).any fun k => k.link == .up

/-! Retry triggers and telegrams handed. -/

/-- One retry trigger handed to RSE (R63); the passes run at the end of the command (log 6). -/
def State.trigger (s : State) : State := { s with rse := { s.rse with triggers := s.rse.triggers + 1 } }
def State.triggerIf (b : Bool) (s : State) : State := if b then s.trigger else s

/-- A transmit list after a telegram is handed to its slot (R131). -/
def handedTo (k : LinkSlot) (t : Telegram) : LinkSlot :=
  if k.link ≠ .up then k
  else if t.payload = .lineImage ∧ t ∈ k.transmit then k
  else if Config.transmitList ≤ k.transmit.length then k
  else { k with transmit := k.transmit ++ [t] }

/-- BU hands LK a telegram for a line (R131). -/
def State.hand (s : State) (l : Nat) (p : Payload) : State :=
  match (s.line l).bind (·.slot) with
  | some n => s.modSlot n fun k => handedTo k { line := l, payload := p }
  | none => s

/-! Answers of the command port (R183, R184). -/

inductive Status where
  | done | set | stored | refused | busy | wrongMode | badFrame
  deriving DecidableEq, Repr

def Status.code : Status → Byte
  | .done => 0 | .set => 1 | .stored => 2 | .refused => 3 | .busy => 4 | .wrongMode => 5 | .badFrame => 6

/-- An optional element id: FFFFh where none is named (R183). -/
def elementBytes (e : Option Nat) : List Byte := Word.bytes ((e.map (BitVec.ofNat 16)).getD 0xFFFF)

def State.reply (s : State) (st : Status) (data : List Byte) : State :=
  { s with cp := { s.cp with receiver := .answering, answer := some { status := st.code, data := data } } }
def State.done (s : State) (data : List Byte := []) : State := s.reply .done data
def State.refuse (s : State) (r : Reason) (e : Option Nat := none) : State :=
  s.reply .refused (r.code :: elementBytes e)

/-- A request frame judged and taken (R182, R184): in an accepted mode its owning rule decides; it is taken only
while the receiver is RECEIVING (log 4). -/
def State.request (s : State) (modes : List Mode) (rule : State → State) : State :=
  if s.cp.receiver = .receiving then
    if s.mode ∈ modes then rule s else s.reply .wrongMode []
  else s

/-- Whether a timer has run out and its expiry is to be taken (log 2). -/
def due (t : Timer) : Bool := t == some 0

/-- A counter of 16 bits that saturates (00_scope 5.3). -/
def saturating (n : Nat) : Nat := min 65535 (n + 1)

end Sys2Proof.Machine
end

