-- ==== Sys2Proof/Machine/Flags.lean ====
section
/-! DEFINITION. The notices of CP with the attention line (R186, R187) and the fault flags of the elements
(R12, R189). -/

namespace Sys2Proof.Machine

/-- The nine notice kinds in bit order. -/
inductive Notice where
  | routeOutcome | routeReplaced | elementFault | queueNearlyFull | offerPending | lineChange | integrity
  | captureReady | modeChange
  deriving DecidableEq, Repr

def Notice.bit : Notice → BitVec 9
  | .routeOutcome => 0x001 | .routeReplaced => 0x002 | .elementFault => 0x004 | .queueNearlyFull => 0x008
  | .offerPending => 0x010 | .lineChange => 0x020 | .integrity => 0x040 | .captureReady => 0x080
  | .modeChange => 0x100

/-- A notice kind handed to CP: the latch is then set (R186). -/
def State.latch (s : State) (n : Notice) : State :=
  { s with cp := { s.cp with latches := s.cp.latches ||| n.bit } }
def State.latchIf (b : Bool) (n : Notice) (s : State) : State := if b then s.latch n else s

/-- The attention line is driven low (R187). -/
def State.attention (s : State) : Bool := s.cp.master && (s.cp.latches &&& s.cp.enables) != 0

/-- The eight fault flags (R12). -/
inductive FaultFlag where
  | throwFailed | detectionLost | unsolicitedMove | notProven | wrongAspect | dark | supervisionLost
  | kindMismatchSeen
  deriving DecidableEq, Repr

def Faults.has (f : Faults) : FaultFlag → Bool
  | .throwFailed => f.throwFailed | .detectionLost => f.detectionLost | .unsolicitedMove => f.unsolicitedMove
  | .notProven => f.notProven | .wrongAspect => f.wrongAspect | .dark => f.dark
  | .supervisionLost => f.supervisionLost | .kindMismatchSeen => f.kindMismatchSeen

def Faults.raise (f : Faults) : FaultFlag → Faults
  | .throwFailed => { f with throwFailed := true }
  | .detectionLost => { f with detectionLost := true }
  | .unsolicitedMove => { f with unsolicitedMove := true }
  | .notProven => { f with notProven := true }
  | .wrongAspect => { f with wrongAspect := true }
  | .dark => { f with dark := true }
  | .supervisionLost => { f with supervisionLost := true }
  | .kindMismatchSeen => { f with kindMismatchSeen := true }

/-- The byte of R189: THROW_FAILED is bit 0, KIND_MISMATCH_SEEN bit 7. -/
def Faults.byte (f : Faults) : Byte :=
  (if f.throwFailed then 0x01 else 0) ||| (if f.detectionLost then 0x02 else 0)
    ||| (if f.unsolicitedMove then 0x04 else 0) ||| (if f.notProven then 0x08 else 0)
    ||| (if f.wrongAspect then 0x10 else 0) ||| (if f.dark then 0x20 else 0)
    ||| (if f.supervisionLost then 0x40 else 0) ||| (if f.kindMismatchSeen then 0x80 else 0)

/-- The event of a fault flag on an element: from clear to set it latches ELEMENT_FAULT (R12). -/
def State.latchFault (s : State) (e : Nat) (flag : FaultFlag) : State :=
  match s.element e with
  | some r =>
    if r.faults.has flag then s
    else (s.modElement e fun r => { r with faults := r.faults.raise flag }).latch .elementFault
  | none => s

end Sys2Proof.Machine
end

