-- ==== Sys2Proof/Machine/Demands.lean ====
section
/-! DEFINITION. Demand events: the pending demand set (R31), the throw a points demand starts (R35) and the
proving period or return window a signal demand starts (R39). -/

namespace Sys2Proof.Machine

/-- The field object address of a record; every record with a kind has one (R2), and all ones stand for none. -/
def Element.objectAddress (r : Element) : Word := r.address.getD 0xFFFF

/-- An entry joins the pending demand set unless its element is in it (R31). -/
def State.joinEntry (s : State) (e : Nat) (p : PendingDemand) : State :=
  match s.fi.demands.find e with
  | some _ => s
  | none => { s with fi := { s.fi with demands := s.fi.demands.put e p } }

/-- An element joins the pending demand set; points whose demanded position is NONE do not (R31). -/
def State.joinDemand (s : State) (e : Nat) : State :=
  match s.element e with
  | some r =>
    match r.body with
    | .points b => if b.demanded.isSome then s.joinEntry e { kind := .points, address := r.objectAddress } else s
    | .signal _ => s.joinEntry e { kind := .signal, address := r.objectAddress }
    | _ => s
  | none => s

/-- The moving flag of an element has cleared: the claim's move flag clears (R72) and RSE has a trigger (R35). -/
def State.movingCleared (s : State) (e : Nat) : State :=
  (match s.claimOn e with
    | some (n, _) => s.modClaim n fun c => { c with move := false }
    | none => s).trigger

/-- POINTS after a demand event for position `p` (R35). -/
def PointsBody.demand (b : PointsBody) (p : Position) : PointsBody :=
  if b.detection = p.detection then { b with demanded := some p, moving := false, throwTimer := none }
  else if b.moving && b.demanded == some p then b
  else { b with demanded := some p, moving := true, throwTimer := some (throwTime b.throwLimit) }

/-- The demanded position is written and the demand event taken (R19, R35). -/
def State.writePointsDemand (s : State) (e : Nat) (p : Position) : State :=
  match s.pointsAt e with
  | some b =>
    let s1 := (s.modPoints e fun b => b.demand p).joinDemand e
    if b.moving && !(b.demand p).moving then s1.movingCleared e else s1
  | none => s

/-- SIGNAL after a demand event for aspect `a` (R17, R39). -/
def SignalBody.demand (b : SignalBody) (a : Aspect) : SignalBody :=
  match a, b.demanded with
  | .proceed, _ =>
    { b with demanded := .proceed, proven := false, proving := some (provingTenths b.provingTime),
             returnWindow := none }
  | .stop, .proceed =>
    { b with demanded := .stop, proven := false, proving := none,
             returnWindow := some (provingTenths b.provingTime) }
  | .stop, .stop => { b with proven := false }

/-- The demanded aspect is written and the demand event taken (R19, R39). -/
def State.writeSignalDemand (s : State) (e : Nat) (a : Aspect) : State :=
  (s.modSignal e fun b => b.demand a).joinDemand e

/-- The ids of the SIGNAL elements, ascending. -/
def State.signalIds (s : State) : List Nat :=
  (s.es.filter fun p => match p.2.body with | .signal _ => true | _ => false).map (·.1)

/-- STOP written into every signal's demand (R22, R34, R180). -/
def State.stopAllSignals (s : State) : State :=
  forEach s.signalIds (fun e s => s.writeSignalDemand e .stop) s

end Sys2Proof.Machine
end

