-- ==== Sys2Proof/Machine/FlankClaims.lean ====
section
/-! DEFINITION. Flank claims and remote items: satisfaction (R73), availability (R74, R75), the search (R76),
making claims (R77), joining and leaving remote items (R79, R86), dropping uses (R85) and the item values
reported to a neighbour (R90). -/

namespace Sys2Proof.Machine

/-- Whether an element is in a demanded state (R73). -/
def State.demandMet (s : State) (e : Nat) (d : Demand) : Bool :=
  match d with
  | .pointsNormal => s.detection e == .normal
  | .pointsReverse => s.detection e == .reverse
  | .signalStop => s.shown e == .stop || s.shown e == .dark
  | .sectionClear => s.occupancy e == .clear

/-- The satisfied flag a claim should have now (R73). -/
def State.satisfiedNow (s : State) (e : Nat) (d : Demand) : Bool := s.demandMet e d && !s.isWithdrawn e

/-- On whose behalf an alternative is sought: a route slot, a neighbour's line, or a route under examination
with the LOCAL alternatives chosen for its earlier references (R54). -/
inductive Seeker where
  | route (slot : Nat)
  | neighbour (line : Nat)
  | candidate (definition : Definition) (chosen : List (Nat × Demand))
  deriving DecidableEq, Repr

/-- The position a definition requires of points, when it names them. -/
def Definition.required (d : Definition) (e : Nat) : Option Position :=
  ((d.path ++ d.overlap).find? fun x => x.element == e).bind (·.position)

/-- Whether a lock conflicts with a demanded state (R74's table). -/
def State.lockConflicts (s : State) (e : Nat) (d : Demand) (l : Lock) : Bool :=
  match d with
  | .pointsNormal | .pointsReverse =>
    match l with
    | .route n _ =>
      match (s.routeRecord n).bind fun r => r.definition.required e with
      | some p => claimFor p != d
      | none => false
    | .entry _ => false
  | .signalStop => true
  | .sectionClear =>
    match l with
    | .route _ .path => true
    | .route _ .overlap => false
    | .entry _ => true

/-- Whether the locks that a route under examination would take conflict with a demanded state (R74). -/
def Definition.wouldConflict (c : Definition) (e : Nat) (d : Demand) : Bool :=
  match d with
  | .signalStop => c.entry == e
  | .sectionClear => c.path.any fun x => x.element == e
  | .pointsNormal | .pointsReverse =>
    match c.required e with
    | some p => claimFor p != d
    | none => false

def Holder.isFor : Holder → Seeker → Bool
  | .route n _, .route m => n == m
  | .neighbour l _ _ _, .neighbour m => l == m
  | _, _ => false

/-- R74, conditions 1 to 7, for a LOCAL alternative. -/
def State.localAvailable (s : State) (h : Seeker) (e : Nat) (d : Demand) : Bool :=
  match s.element e with
  | none => false
  | some r =>
    !r.withdrawn
    && (!r.blocked || s.demandMet e d)
    && (match r.lock with | some l => !s.lockConflicts e d l | none => true)
    && (match h with
        | .candidate c chosen => !c.wouldConflict e d && chosen.all fun x => x.1 != e || x.2 == d
        | _ => true)
    && (match s.claimOn e with
        | some (_, c) =>
          c.demand == d
          && (decide (c.holders.length < 8) || c.holders.any (fun x => x.isFor h)
              || (match h with | .candidate _ chosen => chosen.any fun x => x.1 == e | _ => false))
        | none => true)
    && (match d.position with
        | some p =>
          match s.pointsAt e with
          | some b =>
            b.detection == p.detection
            || (s.occupancy b.containing == .clear && !(b.moving && b.demanded != some p))
          | none => false
        | none => s.demandMet e d)

/-- R74, condition 8. -/
def State.claimCanBeHeld (s : State) (e : Nat) : Bool :=
  (s.claimOn e).isSome || (s.fu.claims.lowestFree Config.claims).isSome

/-- R75, for a REMOTE alternative. -/
def State.remoteAvailable (s : State) (l k : Nat) : Bool :=
  (match s.line l with | some r => !r.withdrawn | none => false)
  && s.lineUp l && decide (k < Config.items)
  && (match (s.item l k).state with | .idle | .asked | .granted => true | _ => false)

def State.alternativeAvailable (s : State) (h : Seeker) : Alternative → Bool
  | .localAlt e d =>
    s.localAvailable h e d && (match h with | .candidate _ _ => true | _ => s.claimCanBeHeld e)
  | .remoteAlt l k => s.remoteAvailable l k

/-- The search of a group from alternative `start` on (R76): the number and the alternative chosen. -/
def State.search (s : State) (h : Seeker) (group start : Nat) : Option (Nat × Alternative) :=
  match s.fu.groups.find group with
  | some g =>
    if g.available then
      ((g.alternatives.zipIdx 1).find? fun x => decide (start ≤ x.2) && s.alternativeAvailable h x.1).map
        fun x => (x.2, x.1)
    else none
  | none => none

/-- A holder added to a holder list: a listed holder's use count rises, another joins at the end (R77). -/
def joinHolders : List Holder → Holder → List Holder
  | [], h => [h]
  | .route n u :: r, .route m v => if n = m then .route n (u + v) :: r else .route n u :: joinHolders r (.route m v)
  | x :: r, h => x :: joinHolders r h

/-- The record of a claim that is made on an element: the present one joined, or a new one (R72, R77). -/
def State.recordClaim (s : State) (h : Holder) (e : Nat) (d : Demand) : State :=
  match s.claimOn e with
  | some (n, _) => s.modClaim n fun c => { c with holders := joinHolders c.holders h }
  | none =>
    match s.fu.claims.lowestFree Config.claims with
    | some n =>
      let c : Claim :=
        { element := e, demand := d, holders := [h], satisfied := s.satisfiedNow e d, move := false }
      { s with fu := { s.fu with claims := s.fu.claims.put n c } }.modElement e fun r => { r with claim := some n }
    | none => s

/-- The demand a claim writes where its points are not in position, with the move flag (R77). -/
def State.demandForClaim (s : State) (e : Nat) (d : Demand) : State :=
  match d.position with
  | some p =>
    if s.detection e = p.detection then s
    else
      let s1 := s.writePointsDemand e p
      match s1.claimOn e with
      | some (n, _) => s1.modClaim n fun c => { c with move := true }
      | none => s1
  | none => s

/-- A LOCAL claim made for a holder (R77). -/
def State.makeClaim (s : State) (h : Holder) (e : Nat) (d : Demand) : State :=
  (s.recordClaim h e d).demandForClaim e d

/-- Whether the claim on an element is satisfied. -/
def State.claimSatisfied (s : State) (e : Nat) : Bool := ((s.claimOn e).map (·.2.satisfied)).getD false

/-- A route's use falls by 1; a holder with no use leaves (R85). -/
def dropUse : List Holder → Nat → List Holder
  | [], _ => []
  | .route n u :: r, m => if n = m then (if u ≤ 1 then r else .route n (u - 1) :: r) else .route n u :: dropUse r m
  | x :: r, m => x :: dropUse r m

/-- The holder list of a claim written; an empty one retires the record and removes the claim reference (R85). -/
def State.setHolders (s : State) (n : Nat) (c : Claim) (hs : List Holder) : State :=
  if hs.isEmpty then
    { s with fu := { s.fu with claims := s.fu.claims.remove n } }.modElement c.element
      fun r => { r with claim := none }
  else s.modClaim n fun c => { c with holders := hs }

/-- The claim a LOCAL reference rests on loses one use of a route (R85). -/
def State.dropClaimUse (s : State) (slot e : Nat) : State :=
  match s.claimOn e with
  | some (n, c) => s.setHolders n c (dropUse c.holders slot)
  | none => s

/-- Whether records have retired between two states; the retirements of one command part are one trigger. -/
def retiredBetween (before after : State) : Bool :=
  decide (after.fu.claims.length < before.fu.claims.length)

/-! Remote items. -/

/-- A reference joins an entry (R79). The new state of the reference follows. -/
def State.joinItem (s : State) (l k : Nat) (ref : Nat × Nat) : State × RefState :=
  let it := s.item l k
  let refs := if ref ∈ it.refs then it.refs else it.refs ++ [ref]
  match it.state with
  | .granted => (s.setItem l k { it with refs := refs }, .held)
  | .idle =>
    let ask := (s.fu.nextAsk.find l).getD 0
    let s1 := s.setItem l k { it with refs := refs, state := .asked, ask := ask, askTimer := some 30,
                                      sweepHold := none }
    ({ s1 with fu := { s1.fu with nextAsk := s1.fu.nextAsk.put l (ask + 1) } }.hand l
      (.flankAsk (BitVec.ofNat 8 k) ask), .remotePending)
  | _ => (s.setItem l k { it with refs := refs }, .remotePending)

/-- BU hands LK a FLANK_FREE for an item. -/
def State.flankFree (s : State) (l k : Nat) (ask : Byte) (sweep : Bool := false) : State :=
  s.hand l (.flankFree (BitVec.ofNat 8 k) ask sweep)

/-- An entry left with no resting references (R86). An ASKED entry whose slot is not UP is met only where a route fails
within the link down that is to take the entry: it becomes FREE_OWED with reason LINK_DOWN, as R91 says (log 24). -/
def State.settleItem (s : State) (l k : Nat) : State :=
  let it := s.item l k
  if !it.refs.isEmpty then s
  else match it.state with
    | .asked =>
      if s.lineUp l then (s.setItem l k { it with state := .idle, askTimer := none }).flankFree l k it.ask
      else s.setItem l k { it with state := .freeOwed, askTimer := none, lastReason := Reason.linkDown.code }
    | .granted =>
      if s.lineUp l then (s.setItem l k { it with state := .idle }).flankFree l k it.ask
      else s.setItem l k { it with state := .freeOwed }
    | .stale => s.setItem l k { it with state := .idle }
    | _ => s

/-- A reference leaves an entry (R86). -/
def State.leaveItem (s : State) (l k : Nat) (ref : Nat × Nat) : State :=
  let it := s.item l k
  (s.setItem l k { it with refs := it.refs.filter (· ≠ ref) }).settleItem l k

/-! Flank references of a route record. -/

/-- The alternative a reference has chosen. -/
def State.chosen (s : State) (r : FlankRef) : Option Alternative :=
  match r.alternative, s.fu.groups.find r.group with
  | some n, some g => g.alternatives[n - 1]?
  | _, _ => none

def State.modRef (s : State) (slot i : Nat) (f : FlankRef → FlankRef) : State :=
  s.modRecord slot fun r => { r with flanks := r.flanks.modify i f }

/-- A reference's claim use, or its place in a remote entry, is given up (R85, R86). -/
def State.yieldRef (s : State) (slot i : Nat) (r : FlankRef) : State :=
  match s.chosen r with
  | some (.localAlt e _) => s.dropClaimUse slot e
  | some (.remoteAlt l k) => s.leaveItem l k (slot, i)
  | none => s

/-- A reference is dropped by a release: it becomes RELEASED (R85, R86). It keeps the number of the alternative it had
chosen, which is the model's choice (log 34). -/
def State.dropRef (slot i : Nat) (s : State) : State :=
  match (s.routeRecord slot).bind fun r => r.flanks[i]? with
  | some r =>
    if r.state = .released then s
    else (s.yieldRef slot i r).modRef slot i fun r => { r with state := .released }
  | none => s

/-- A choice is made into a claim or an ask, and the reference takes the state that follows (R77, R79). -/
def State.adopt (s : State) (slot i number : Nat) (a : Alternative) : State :=
  match a with
  | .localAlt e d =>
    let s1 := s.makeClaim (.route slot 1) e d
    s1.modRef slot i fun r =>
      { r with alternative := some number, state := if s1.claimSatisfied e then .held else .localPending }
  | .remoteAlt l k =>
    let (s1, st) := s.joinItem l k (slot, i)
    s1.modRef slot i fun r => { r with alternative := some number, state := st }

/-- Satisfaction of a HELD reference (R83). -/
def State.refSatisfied (s : State) (r : FlankRef) : Bool :=
  match s.chosen r with
  | some (.localAlt e _) => s.claimSatisfied e
  | some (.remoteAlt l k) =>
    (match (s.item l k).state with | .granted | .stale => true | _ => false)
    && (match (s.line l).bind (·.boundary) with
        | some e => ((s.boundaryAt e).bind fun b => b.items[k]?) == some .satisfied
        | none => false)
  | none => false

/-! The values reported to a neighbour. -/

/-- The NEIGHBOUR holder of a line and item on a claim. -/
def neighbourHolder (c : Claim) (l k : Nat) : Option (Byte × GrantState) :=
  c.holders.findSome? fun h =>
    match h with
    | .neighbour l' k' a g => if l' = l ∧ k' = k then some (a, g) else none
    | .route _ _ => none

/-- The value reported for an item of a line (R90). -/
def State.itemValue (s : State) (l k : Nat) : ItemImage :=
  match (s.line l).bind fun r => r.items[k]? with
  | some (e, _) =>
    match s.claimOn e with
    | some (_, c) =>
      match neighbourHolder c l k with
      | some (_, .granted) => if c.satisfied then .satisfied else .unsatisfied
      | some _ => .unsatisfied
      | none => .nothing
    | none => .nothing
  | none => .nothing

def State.itemValues (s : State) (l : Nat) : List ItemImage := (List.range Config.items).map (s.itemValue l)

/-- Each line whose item values differ from those of an earlier state has its image handed (R90, R160). -/
def State.handChangedItems (before after : State) : State :=
  forEach (after.bu.map (·.1))
    (fun l s => if before.itemValues l = after.itemValues l then s else s.hand l .lineImage) after

end Sys2Proof.Machine
end

