-- ==== Sys2Proof/Machine/Handover.lean ====
section
/-! DEFINITION. Boundary lines toward a route: the token (R148), starting a handover (R149), the offer (R153),
a route that has gone (R154), passage (R155), and the end of an entry reservation (R159). -/

namespace Sys2Proof.Machine

/-- The token of a line written; on a change the image is handed (R148, R160), and the conflict mark clears when
the token leaves OUT (R161). -/
def State.setToken (s : State) (l : Nat) (t : Token) : State :=
  match s.line l with
  | some r =>
    if r.token = t then s
    else (s.modLine l fun r =>
      { r with token := t, conflict := r.conflict && t == .rest .outward }).hand l .lineImage
  | none => s

/-- An ask ended: its deadline stops and the token returns to the prior value (R148, R150, R154). -/
def State.endAsk (s : State) (l : Nat) : State :=
  match s.line l with
  | some r =>
    match r.token with
    | .asking prior => (s.modLine l fun r => { r with ask := none }).setToken l (.rest prior)
    | .rest _ => s
  | none => s

/-- The offer for a route slot, with the line's next offer number (R153). -/
def State.makeOffer (s : State) (l slot : Nat) : State :=
  match s.line l with
  | some r =>
    (s.modLine l fun r =>
      { r with outOffer := some { number := r.nextOffer, slot := some slot, state := .offered, deadline := some 150 },
               nextOffer := r.nextOffer + 1 }).hand l (.offer r.nextOffer)
  | none => s

/-- A PENDING_HOST offer is declined with a reason and removed; an ACCEPTED one stays. -/
def State.declinePending (s : State) (l : Nat) (reason : Reason) : State :=
  match (s.line l).bind (·.inOffer) with
  | some o =>
    if o.accepted then s
    else (s.modLine l fun r => { r with inOffer := none }).hand l (.decline o.number reason.code)
  | none => s

/-- BU's part of the take of a boundary route, with the handover context it starts with (R149). -/
def State.startHandover (s : State) (l slot priority : Nat) : State × Handover :=
  match s.line l with
  | some r =>
    match r.token with
    | .rest d =>
      if d = .outward ∧ ¬r.conflict then
        (s.makeOffer l slot, { line := l, offer := some r.nextOffer, status := .offered })
      else
        let word := claimWord priority s.areaId
        let s1 := s.declinePending l .borderLocked
        let s2 := s1.modLine l fun r => { r with ask := some { slot := slot, word := word, deadline := some 50 } }
        ((s2.setToken l (.asking d)).hand l (.dirAsk word), { line := l, offer := none, status := .direction })
    | .asking prior =>
      -- does not arise: the asking route holds the border section (log 24); the ask passes to this route
      let word := claimWord priority s.areaId
      let s1 := s.modLine l fun r => { r with ask := some { slot := slot, word := word, deadline := some 50 } }
      ((s1.setToken l (.asking prior)).hand l (.dirAsk word), { line := l, offer := none, status := .direction })
  | none => (s, { line := l, offer := none, status := .direction })

/-- What becomes of a line's outgoing offer when its route has gone (R154): with the slot UP it is withdrawn, else
an ACCEPTED offer is kept WITHDRAW_OWED. -/
def State.endOffer (s : State) (l : Nat) (o : OutOffer) : State :=
  let keepOwed := o.state = .offered ∨ o.state = .accepted
  if s.lineUp l then
    (s.modLine l fun r =>
      { r with outOffer := none, transit := if o.state = .offered then r.transit else false }).hand l
        (.withdraw o.number)
  else if keepOwed then
    s.modLine l fun r => { r with outOffer := some { o with slot := none, state := .withdrawOwed, deadline := none } }
  else s.modLine l fun r => { r with outOffer := none, transit := false }

/-- RSV tells BU that the boundary route in a slot has gone (R154). -/
def State.routeGone (s : State) (l slot : Nat) : State :=
  match s.line l with
  | some r =>
    let s1 := if r.ask.any (fun a => a.slot == slot) then s.endAsk l else s
    match r.outOffer with
    | some o => if o.slot = some slot then s1.endOffer l o else s1
    | none => s1
  | none => s

/-- The passage of a boundary route handed to BU (R155). -/
def State.passage (s : State) (l : Nat) (number : Byte) : State :=
  (s.hand l (.passed number)).modLine l fun r => { r with outOffer := none, transit := false }

/-- A lock released naming its holder; whether it was removed (R10). -/
def State.releaseLock (s : State) (e : Nat) (h : Lock) : State :=
  if s.lockOf e = some h then s.modElement e fun r => { r with lock := none } else s

/-- An ACCEPTED incoming offer ended: reservation released naming the line, transit cleared, offer removed; the
release of a lock is a retry trigger (R159). -/
def State.endReservation (s : State) (l : Nat) : State :=
  match s.line l with
  | some r =>
    let held := s.lockOf r.border == some (.entry l)
    State.triggerIf held ((s.releaseLock r.border (.entry l)).modLine l
      fun r => { r with inOffer := none, transit := false })
  | none => s

end Sys2Proof.Machine
end

