-- ==== Sys2Proof/Machine/Supervisor.lean ====
section
/-! DEFINITION. The route supervisor: outcomes (R66), the ends of a record (R60, R111, R115), the clearing
conditions (R95), clearing (R97), replacement (R100), entry of the train (R103), release (R105 to R108), the
overlap (R109, R110), SETTING to LOCKED (R59) and the approach check (R118, R119). -/

namespace Sys2Proof.Machine

/-- An outcome written with its unread mark and notice (R66). -/
def State.writeOutcome (s : State) (route : Nat) (o : RouteOutcome) : State :=
  { s with rse := { s.rse with table := s.rse.table.adjust route fun r =>
      { r with outcome := some o, unread := true } } }.latch .routeOutcome

def Step.elements (st : Step) : List Nat := st.sect :: st.points.map (·.1)

/-- The elements locked to a record's slot in role PATH (R94). -/
def RouteRecord.pathElements (r : RouteRecord) : List Nat := r.definition.entry :: r.steps.flatMap Step.elements
/-- The elements locked to a record's slot in role OVERLAP (R94). -/
def RouteRecord.overlapElements (r : RouteRecord) : List Nat :=
  if r.overlapStatus = .released then [] else r.definition.overlap.map (·.element)

/-- The element of a tied entry index (R46). -/
def Definition.tiedElement (d : Definition) (i : Nat) : Nat :=
  ((if i < 24 then d.path[i]? else d.overlap[i - 24]?).map (·.element)).getD 0

/-- The first path section, of step 1. -/
def Definition.firstSection (d : Definition) : Nat := (d.path.head?.map (·.element)).getD 0
/-- The section of the last path step. -/
def Definition.lastSection (d : Definition) : Nat :=
  ((d.path.filter fun x => x.position.isNone).getLast?.map (·.element)).getD 0

/-- The release steps of a path (R47). -/
def stepsOf : List PathEntry → List Step
  | [] => []
  | x :: r =>
    match x.position with
    | none => { sect := x.element, points := r.takeWhile (·.position.isSome) |>.filterMap fun y =>
        y.position.map fun p => (y.element, p) } :: stepsOf r
    | some _ => stepsOf r

/-- Locks of the slot released on the listed elements (R10). -/
def State.releaseSlotLocks (s : State) (slot : Nat) (es : List Nat) : State :=
  forEach es (fun e s => (s.releaseLock e (.route slot .path)).releaseLock e (.route slot .overlap)) s

/-- References of a record dropped: those for which `p` holds of the tied entry index (R85, R86). One release drops them,
and so hands its FLANK_FREEs, in ascending reference index, which is the model's choice (log 36). -/
def State.dropRefs (s : State) (slot : Nat) (p : Nat → Bool) : State :=
  match s.routeRecord slot with
  | some r => forEach (r.flanks.zipIdx.filter fun x => p x.1.tied) (fun x s => s.dropRef slot x.2) s
  | none => s

/-- What the end of a record does but for the outcome: every lock, reference and handover given back, the slot
freed (R60, R111, R115). -/
def State.giveBack (s : State) (slot : Nat) (r : RouteRecord) : State :=
  let s1 := s.releaseSlotLocks slot (r.pathElements ++ r.overlapElements)
  let s2 := s1.dropRefs slot fun _ => true
  let s3 := match r.handover with | some h => s2.routeGone h.line slot | none => s2
  { s3 with rsv := s3.rsv.remove slot }

/-- The end of a record with its outcome; one retry trigger for the whole (R60, R111, R115). -/
def State.endRecord (s : State) (slot : Nat) (o : RouteOutcome) : State :=
  match s.routeRecord slot with
  | some r => State.handChangedItems s (((s.giveBack slot r).writeOutcome r.route o).trigger)
  | none => s

/-- A record in SETTING or HANDOVER_WAIT fails (R60). -/
def State.failRecord (s : State) (slot : Nat) (reason : Reason) (e : Nat) : State :=
  s.endRecord slot (.failed reason (some e))

/-- A route whose handover has failed; the element is the exit (R58). -/
def State.failHandover (s : State) (slot : Nat) (reason : Reason) : State :=
  match s.routeRecord slot with
  | some r => s.failRecord slot reason r.definition.exit
  | none => s

/-- The first clearing condition that fails, with its element (R95). -/
def State.conditionFailure (s : State) (slot : Nat) (r : RouteRecord) : Option (Reason × Nat) :=
  let path := r.pathElements
  let overlap := r.overlapElements
  let points := r.steps.flatMap (·.points) ++
    (if r.overlapStatus = .released then []
     else r.definition.overlap.filterMap fun x => x.position.map fun p => (x.element, p))
  let sections := r.steps.map (·.sect) ++
    (if r.overlapStatus = .released then []
     else (r.definition.overlap.filter fun x => x.position.isNone).map (·.element))
  match (path.find? fun e => s.lockOf e != some (.route slot .path)).or
      (overlap.find? fun e => s.lockOf e != some (.route slot .overlap)) with
  | some e => some (.lockLost, e)
  | none =>
  match (path ++ overlap).find? s.isWithdrawn with
  | some e => some (.withdrawn, e)
  | none =>
  match points.find? fun x => s.detection x.1 != x.2.detection with
  | some x => some (.notDetected, x.1)
  | none =>
  match sections.find? fun e => s.occupancy e != .clear with
  | some e => some (.notClear, e)
  | none =>
  match r.flanks.find? fun f => f.state != .released && !(f.state == .held && s.refSatisfied f) with
  | some f => some (.flankLost, r.definition.tiedElement f.tied)
  | none =>
  match r.handover with
  | some h =>
    if h.status ≠ .accepted then some (.notAccepted, r.definition.exit)
    else if ¬s.lineUp h.line then some (.linkDown, r.definition.exit)
    else if s.remoteImage r.definition.exit ≠ .clear then some (.remoteNotClear, r.definition.exit)
    else none
  | none => none

/-- PROCEED written and the record moved to CLEARING, as automatic clearing and RECLEAR do (R97, R101). -/
def State.clearRecord (s : State) (slot : Nat) (r : RouteRecord) : State :=
  (s.writeSignalDemand r.definition.entry .proceed).modRecord slot fun r =>
    { r with state := .clearing, replaced := none }

/-- A record in LOCKED that is waiting to clear moves to CLEARING when every condition holds (R97). -/
def State.tryClear (s : State) (slot : Nat) : State :=
  match s.routeRecord slot with
  | some r =>
    if s.mode = .operating ∧ r.state = .locked ∧ ¬r.hold ∧ r.replaced = none
        ∧ s.conditionFailure slot r = none then s.clearRecord slot r
    else s
  | none => s

/-- The overlap released (R109): locks, tied references, status and timer. -/
def State.releaseOverlap (s : State) (slot : Nat) (r : RouteRecord) : State :=
  let s1 := s.releaseSlotLocks slot (r.definition.overlap.map (·.element))
  (s1.dropRefs slot fun i => decide (24 ≤ i)).modRecord slot fun r =>
    { r with overlapStatus := .released, overlapTimer := none }

/-- After a release by the train: the record retires when nothing remains (R111); the release and the retirement
are one retry trigger. -/
def State.afterRelease (s : State) (slot : Nat) : State :=
  match s.routeRecord slot with
  | some r =>
    if r.state = .inUse ∧ r.steps = [] ∧ r.overlapStatus = .released then s.endRecord slot .released
    else s.trigger
  | none => s.trigger

/-- The overlap timer started, or the overlap released at once where the time is 0 (R109). -/
def State.startOverlap (s : State) (slot : Nat) : State :=
  match s.routeRecord slot with
  | some r =>
    if r.state = .inUse ∧ r.overlapStatus = .held ∧ ¬r.discrepancy
        ∧ s.occupancy r.definition.lastSection = .occupied then
      if r.definition.overlapTime = 0 then
        State.handChangedItems s ((s.releaseOverlap slot r).afterRelease slot)
      else s.modRecord slot fun r =>
        { r with overlapStatus := .timing, overlapTimer := some (10 * r.definition.overlapTime.toNat) }
    else s
  | none => s

/-- The move to IN_USE with the front step seen occupied (R103, R121). -/
def State.enterInUse (s : State) (slot : Nat) : State :=
  (s.modRecord slot fun r => { r with state := .inUse, frontSeen := true, holdTimer := none }).startOverlap slot

/-- A record in LOCKED whose shown-proceed flag is set while its first path section is OCCUPIED (R103). -/
def State.enterIfOccupied (s : State) (slot : Nat) : State :=
  match s.routeRecord slot with
  | some r =>
    if r.state = .locked ∧ r.shownProceed ∧ s.occupancy r.definition.firstSection = .occupied then s.enterInUse slot
    else s
  | none => s

/-- Replacement (R100): STOP written, the record in LOCKED with the replaced reason, ROUTE_REPLACED latched. From
CLEARING with PROCEED shown the shown-proceed flag is set, which lets a train that stands in the first section
move it on (R103, log 19). -/
def State.replace (s : State) (slot : Nat) (reason : Reason) (e : Nat) : State :=
  match s.routeRecord slot with
  | some r =>
    if r.state = .clearing ∨ r.state = .cleared then
      let shows := r.state = .clearing ∧ s.shown r.definition.entry = .proceed
      let s1 := ((s.writeSignalDemand r.definition.entry .stop).modRecord slot fun r =>
        { r with state := .locked, replaced := some (reason, e), shownProceed := r.shownProceed || shows }).latch
          .routeReplaced
      if shows then s1.enterIfOccupied slot else s1
    else s
  | none => s

/-- R59's conditions. -/
def State.settingDone (s : State) (r : RouteRecord) : Bool :=
  ((r.definition.path ++ r.definition.overlap).all fun x =>
    match x.position with | some p => s.detection x.element == p.detection | none => true)
  && r.flanks.all (fun f => f.state == .held)
  && (match r.handover with | some h => h.status == .accepted | none => true)

/-- A record in SETTING moves to LOCKED, with outcome SET, when R59's conditions hold. -/
def State.testSetting (s : State) (slot : Nat) : State :=
  match s.routeRecord slot with
  | some r =>
    if r.state = .setting ∧ s.settingDone r then
      ((s.modRecord slot fun r => { r with state := .locked }).writeOutcome r.route .set).tryClear slot
    else s
  | none => s

/-- RSV tests a record on an event that concerns it (R59, R96). -/
def State.review (slot : Nat) (s : State) : State :=
  match s.routeRecord slot with
  | some r =>
    match r.state with
    | .setting => s.testSetting slot
    | .locked => s.tryClear slot
    | .clearing | .cleared =>
      match s.conditionFailure slot r with
      | some (reason, e) => s.replace slot reason e
      | none => s
    | _ => s
  | none => s

def State.reviewAll (s : State) : State := forEach s.slots State.review s

/-- Whether the section that follows the front step is OCCUPIED (R105). -/
def State.followingOccupied (s : State) (r : RouteRecord) : Bool :=
  match r.steps with
  | _ :: next :: _ => s.occupancy next.sect == .occupied
  | _ =>
    match r.definition.line with
    | some _ => s.remoteImage r.definition.exit == .occupied
    | none => match r.definition.beyond with | some e => s.occupancy e == .occupied | none => false

/-- The front step released (R105); the last step of a boundary route hands BU the passage first (R108). With no step left
the seen-occupied flag is clear, which is the model's choice (log 40). -/
def State.releaseStep (s : State) (slot : Nat) (r : RouteRecord) : State :=
  match r.steps with
  | [] => s
  | st :: rest =>
    let s1 :=
      match rest, r.handover with
      | [], some h =>
        (s.modRecord slot fun r => { r with handover := some { h with status := .passed } }).passage
          h.line (h.offer.getD 0)
      | _, _ => s
    let s2 := s1.releaseSlotLocks slot st.elements
    let s3 := s2.dropRefs slot fun i =>
      decide (i < 24) && st.points.any fun x => x.1 == r.definition.tiedElement i
    let s4 := s3.modRecord slot fun r =>
      { r with steps := rest,
               frontSeen := (rest.head?.map fun n => s.occupancy n.sect == .occupied).getD false }
    State.handChangedItems s (s4.afterRelease slot)

/-- A passage discrepancy (R107). -/
def State.discrepancy (s : State) (slot front : Nat) : State :=
  (s.modRecord slot fun r =>
    { r with discrepancy := true, replaced := some (.passage, front),
             overlapStatus := if r.overlapStatus = .timing then .held else r.overlapStatus,
             overlapTimer := none }).latch .routeReplaced

/-- A change of occupancy of section `e` reaches a record in IN_USE with no discrepancy (R105 to R110). -/
def State.passageEvent (s : State) (slot e : Nat) (new : Occupancy) (r : RouteRecord) : State :=
  if (match r.steps with | st :: _ => st.sect == e | [] => false) && new == .clear && r.frontSeen then
    if s.followingOccupied r then s.releaseStep slot r else s.discrepancy slot e
  else if new = .occupied then
    let s1 := s.modRecord slot fun r =>
      { r with
        frontSeen := r.frontSeen || (match r.steps with | st :: _ => st.sect == e | [] => false)
        overlapStatus :=
          if (r.definition.overlap.any fun x => x.element == e)
              ∧ (r.overlapStatus = .held ∨ r.overlapStatus = .timing) then .overrun else r.overlapStatus
        overlapTimer := if r.definition.overlap.any fun x => x.element == e then none else r.overlapTimer }
    if e = r.definition.lastSection then s1.startOverlap slot else s1
  else s

/-- A change of occupancy of section `e` reaches a record (R96, R103, R121). -/
def State.sectionEvent (e : Nat) (new : Occupancy) (slot : Nat) (s : State) : State :=
  match s.routeRecord slot with
  | some r =>
    let entry := e = r.definition.firstSection ∧ new = .occupied
    match r.state with
    | .cleared =>
      if entry then (s.writeSignalDemand r.definition.entry .stop).enterInUse slot else s.review slot
    | .locked => if entry ∧ r.shownProceed then s.enterInUse slot else s.review slot
    | .inUse => if r.discrepancy then s else s.passageEvent slot e new r
    | .approachHold =>
      if entry then
        ((s.modRecord slot fun r => { r with replaced := some (.enteredDuringHold, e) }).latch
          .routeReplaced).enterInUse slot
      else s
    | _ => s.review slot
  | none => s

/-- A length and an occupancy of an approach element (R118). An element withdrawn at START has no kind and no length; that
the check meets one does not arise, since check 1 refuses a route with a withdrawn approach element (R51), and it is read
as 1 metre, UNKNOWN (log 24). -/
def State.approachInput (s : State) (e : Nat) : Nat × Occupancy :=
  match s.element e with
  | some r =>
    let seen (o : Occupancy) := if r.withdrawn then .unknown else o
    match r.body with
    | .sect b => (lengthInEffect b.length, seen b.occupancy)
    | .boundary b => (lengthInEffect b.remoteLength, seen b.image)
    | _ => (1, .unknown)
  | none => (1, .unknown)

/-- The distance out to and including the nearest element that is not CLEAR (R119, stages 2 and 3). -/
def approachDistance : List (Nat × Occupancy) → Option Nat
  | [] => none
  | (len, o) :: r => if o = .clear then (approachDistance r).map (len + ·) else some len

/-- The longest hold of a route, in tenths (R119 stage 1, R122). -/
def Definition.longestHold (d : Definition) : Nat := 10 * tMaxInEffect d.tMax d.tMin

/-- The running time over a distance, in tenths, rounded up (R119, stage 4). -/
def runningTime (distance speed : Nat) : Nat := (distance * 36 + speed - 1) / speed

/-- The hold for a train at a distance: running time and margin, within the route's limits (R119). -/
def Definition.holdFor (d : Definition) (distance : Nat) : Nat :=
  clampTo (10 * tMinInEffect d.tMin) d.longestHold
    (runningTime distance (speedInEffect d.speed) + marginInEffect d.margin)

/-- The approach check: `none` for no hold, else the hold in tenths (R119). -/
def State.approachCheck (s : State) (d : Definition) : Option Nat :=
  if d.approach = [] then some d.longestHold
  else (approachDistance (d.approach.map s.approachInput)).map d.holdFor

end Sys2Proof.Machine
end

