-- ==== Sys2Proof/Machine/FlankUnit.lean ====
section
/-! DEFINITION. The flank unit's events: a claim's satisfaction (R83), the resolution of pending references
(R82), the answers to a neighbour's asks (R87 to R89), the sweep (R90) and the link events (R91). -/

namespace Sys2Proof.Machine

/-- Whether a reference has chosen a LOCAL alternative on an element. -/
def State.restsOn (s : State) (e : Nat) (f : FlankRef) : Bool :=
  match s.chosen f with
  | some (.localAlt e' _) => e' == e
  | _ => false

/-- Every LOCAL_PENDING reference on an element becomes HELD (R83). -/
def State.holdPending (s : State) (e : Nat) : State :=
  let hold (f : FlankRef) : FlankRef :=
    if f.state = .localPending ∧ s.restsOn e f then { f with state := .held } else f
  { s with rsv := s.rsv.map fun p => (p.1, { p.2 with flanks := p.2.flanks.map hold }) }

def Holder.withGrant (g : GrantState) : Holder → Holder
  | .neighbour l k a _ => .neighbour l k a g
  | h => h

/-- Each OWED holder of a claim moves to a grant state, with the answer that is due to it (R88); the answers are handed in
the order of the holder list, which is the model's choice (log 36). -/
def State.answerOwed (s : State) (n : Nat) (g : GrantState) (answer : Nat → Byte → Payload) : State :=
  match s.claimRecord n with
  | some c =>
    forEach c.holders
      (fun h s => match h with
        | .neighbour l k a .owed => s.hand l (answer k a)
        | _ => s)
      (s.modClaim n fun c => { c with holders := c.holders.map fun h =>
        match h with
        | .neighbour _ _ _ .owed => h.withGrant g
        | _ => h })
  | none => s

/-- A claim's satisfied flag re-evaluated for an element (R73), with what a change does (R83, R88, R90). The answers to the
neighbours are handed before the images of the same change, which is the model's choice (log 36). -/
def State.reevaluate (s : State) (e : Nat) : State :=
  match s.claimOn e with
  | some (n, c) =>
    let now := s.satisfiedNow e c.demand
    if now = c.satisfied then s
    else
      let s1 := s.modClaim n fun c => { c with satisfied := now }
      let s2 :=
        if now then
          (s1.holdPending e).answerOwed n .granted fun k a => .flankGrant (BitVec.ofNat 8 k) a true
        else s1
      (State.handChangedItems s s2).reviewAll
  | none => s

/-- One pending reference resolved: its use dropped and a later alternative searched; where none is left it is
RELEASED and its record fails with FLANK (R82). A claim that retires with the dropped use and the record's failure are
then a retry trigger each, which is the model's choice (log 6). -/
def State.resolveRef (x : Nat × Nat) (s : State) : State :=
  match (s.routeRecord x.1).bind fun r => (r.flanks[x.2]?).map fun f => (r, f) with
  | some (r, f) =>
    if f.state = .localPending ∨ f.state = .remotePending then
      let s1 := s.yieldRef x.1 x.2 f
      let s2 := State.triggerIf (retiredBetween s s1) s1
      match s2.search (.route x.1) f.group (f.alternative.getD 0 + 1) with
      | some (n, a) => (s2.adopt x.1 x.2 n a).review x.1
      | none =>
        (s2.modRef x.1 x.2 fun f => { f with state := .released }).failRecord x.1 .flank
          (r.definition.tiedElement f.tied)
    else s
  | none => s

/-- The references of every record that satisfy `p`, in ascending slot and index (R82). -/
def State.refsWhere (s : State) (p : Nat × Nat → FlankRef → Bool) : List (Nat × Nat) :=
  s.rsv.flatMap fun r => (r.2.flanks.zipIdx.filter fun x => p (r.1, x.2) x.1).map fun x => (r.1, x.2)

/-- THROW_FAILED of claimed points: OWED holders are denied, LOCAL_PENDING references resolved (R82, R88). The denials are
handed before the images (log 36). -/
def State.claimThrowFailed (s : State) (e : Nat) : State :=
  match s.claimOn e with
  | some (n, _) =>
    let s1 := s.answerOwed n .denied fun k a => .flankDeny (BitVec.ofNat 8 k) a Reason.throwFailed.code
    let s2 := State.handChangedItems s s1
    let s3 := forEach (s2.refsWhere fun _ f => f.state == .localPending && s2.restsOn e f) State.resolveRef s2
    State.handChangedItems s2 s3
  | none => s

/-- An ASKED entry given up with a reason: its timer stops, it takes state `st` and its references leave it; a
FLANK_FREE goes out where `free` (R80, R81, R91). -/
def State.abandonItem (l : Nat) (reason : Byte) (st : ItemState) (free : Bool) (k : Nat) (s : State) : State :=
  let it := s.item l k
  let s1 := s.setItem l k { it with state := st, askTimer := none, refs := [], lastReason := reason }
  if free then s1.flankFree l k it.ask else s1

/-- The ASKED entries among items `ks` given up, and the references that rested on them resolved (R80, R81, R91). The
FLANK_FREEs of several entries are handed in ascending item index, all before the references are resolved, which is the
model's choice (log 36). -/
def State.abandonAsked (s : State) (l : Nat) (ks : List Nat) (reason : Byte) (st : ItemState) (free : Bool) : State :=
  let asked := ks.filter fun k => (s.item l k).state == .asked
  let refs := asked.flatMap fun k => (s.item l k).refs
  let s1 := forEach asked (State.abandonItem l reason st free) s
  forEach (s1.refsWhere fun x _ => refs.contains x) State.resolveRef s1

/-- FLANK_GRANT for an item whose entry is ASKED with that ask number, or any other case (R80). -/
def State.grantReceived (s : State) (l k : Nat) (ask : Byte) (satisfied : Bool) : State :=
  let it := s.item l k
  if k < Config.items ∧ it.state = .asked ∧ it.ask = ask then
    let s1 := s.setItem l k { it with state := .granted, askTimer := none }
    let s2 := match (s.line l).bind (·.boundary) with
      | some e => s1.modBoundary e fun b => { b with items := b.items.set k (if satisfied then .satisfied else .unsatisfied) }
      | none => s1
    (forEach it.refs (fun x s => s.modRef x.1 x.2 fun f => { f with state := .held }) s2).reviewAll
  else s.flankFree l k ask

/-- FLANK_DENY (R80). -/
def State.denyReceived (s : State) (l k : Nat) (ask reason : Byte) : State :=
  if k < Config.items ∧ (s.item l k).state = .asked ∧ (s.item l k).ask = ask then
    s.abandonAsked l [k] reason .idle true
  else s

/-- The ask timer of an entry expires (R81). -/
def State.askTimeout (s : State) (l k : Nat) : State := s.abandonAsked l [k] Reason.timeout.code .idle true

/-! Answers to a neighbour. -/

def State.deny (s : State) (l : Nat) (item ask : Byte) (reason : Reason) : State :=
  s.hand l (.flankDeny item ask reason.code)

/-- The NEIGHBOUR holder for a line and item rewritten (R87, R88). -/
def State.modHolder (s : State) (n l k : Nat) (ask : Byte) (g : GrantState) : State :=
  s.modClaim n fun c => { c with holders := c.holders.map fun h =>
    match h with
    | .neighbour l' k' _ _ => if l' = l ∧ k' = k then .neighbour l k ask g else h
    | .route _ _ => h }

/-- A repeat ask (R88). -/
def State.repeatAsk (s : State) (l : Nat) (item ask : Byte) (n : Nat) (c : Claim) (g : GrantState) : State :=
  let k := item.toNat
  match g with
  | .granted => (s.modHolder n l k ask .granted).hand l (.flankGrant item ask c.satisfied)
  | .owed => s.modHolder n l k ask .owed
  | .denied =>
    if c.satisfied then (s.modHolder n l k ask .granted).hand l (.flankGrant item ask true)
    else if s.localAvailable (.neighbour l) c.element c.demand && s.claimCanBeHeld c.element then
      (s.modHolder n l k ask .owed).demandForClaim c.element c.demand
    else (s.modHolder n l k ask .denied).deny l item ask .conflict

/-- A FLANK_ASK answered by the first case that applies (R87); the answer is handed before the image (log 36). -/
def State.flankAsked (s : State) (l : Nat) (item ask : Byte) : State :=
  match s.line l with
  | some r =>
    if s.mode = .halted then s.deny l item ask .halted
    else if r.withdrawn then s.deny l item ask .lineWithdrawn
    else match r.items[item.toNat]? with
    | none => s.deny l item ask .noItem
    | some (e, d) =>
      match (s.claimOn e).bind fun x => (neighbourHolder x.2 l item.toNat).map fun h => (x.1, x.2, h.2) with
      | some (n, c, g) => State.handChangedItems s (s.repeatAsk l item ask n c g)
      | none =>
        if !s.localAvailable (.neighbour l) e d then s.deny l item ask .conflict
        else if !s.claimCanBeHeld e then s.deny l item ask .tableFull
        else
          let s1 := s.makeClaim (.neighbour l item.toNat ask .owed) e d
          let s2 :=
            match s1.claimOn e with
            | some (n, c) =>
              if c.satisfied then (s1.modHolder n l item.toNat ask .granted).hand l (.flankGrant item ask true) else s1
            | none => s1
          State.handChangedItems s s2
  | none => s

/-- The holders of a claim for which `p` holds leave it (R89). -/
def State.removeHolders (p : Holder → Bool) (n : Nat) (s : State) : State :=
  match s.claimRecord n with
  | some c => if c.holders.any p then s.setHolders n c (c.holders.filter fun h => !p h) else s
  | none => s

/-- A FLANK_FREE (R89). -/
def State.flankFreed (s : State) (l : Nat) (item ask : Byte) (sweep : Bool) : State :=
  match (s.line l).bind fun r => r.items[item.toNat]? with
  | some (e, _) =>
    match s.claimOn e with
    | some (n, c) =>
      match neighbourHolder c l item.toNat with
      | some (a, _) =>
        if a = ask ∨ sweep then
          let s1 := s.removeHolders (fun h => match h with
            | .neighbour l' k' _ _ => l' == l && k' == item.toNat
            | .route _ _ => false) n
          State.handChangedItems s (State.triggerIf (retiredBetween s s1) s1)
        else s
      | none => s
    | none => s
  | none => s

/-- Every NEIGHBOUR holder of a line leaves every claim, at the expiry of its line reset (R89). -/
def State.freeNeighbour (s : State) (l : Nat) : State :=
  forEach (s.fu.claims.map (·.1)) (State.removeHolders fun h => match h with
    | .neighbour l' _ _ _ => l' == l
    | .route _ _ => false) s

/-- An item value received while the entry is IDLE: a granted one is swept (R90). The FLANK_FREE carries the
entry's last ask number (log 23). -/
def State.sweepItem (s : State) (l k : Nat) (v : ItemImage) : State :=
  let it := s.item l k
  if it.state = .idle ∧ (v = .satisfied ∨ v = .unsatisfied) ∧ it.sweepHold = none then
    (s.setItem l k { it with sweepHold := some 10 }).flankFree l k it.ask true
  else s

/-! Link events (R91). -/

def itemIndexes : List Nat := List.range Config.items

def State.flankLinkDown (s : State) (l : Nat) : State :=
  s.abandonAsked l itemIndexes Reason.linkDown.code .freeOwed false

def State.flankLinkUp (s : State) (l : Nat) (restarted : Bool) : State :=
  forEach itemIndexes
    (fun k s =>
      let it := s.item l k
      match it.state with
      | .freeOwed =>
        let s1 := s.setItem l k { it with state := .idle }
        if restarted then s1 else s1.flankFree l k it.ask
      | .granted => if restarted then s.setItem l k { it with state := .stale } else s
      | _ => s) s

def State.flankLineWithdrawn (s : State) (l : Nat) : State :=
  if s.lineUp l then s.abandonAsked l itemIndexes Reason.lineWithdrawn.code .idle true
  else s.abandonAsked l itemIndexes Reason.lineWithdrawn.code .freeOwed false

end Sys2Proof.Machine
end

