-- ==== Sys2Proof/Machine/Events.lean ====
section
/-! DEFINITION. The events ES and BU hand on: changes of occupancy (R14), detection (R15), shown aspect and proof
(R17), images (R18), withdrawals (R8, R147, R179), link down and link up of a line (R162, R163), and entry to
HALTED (R180). Within a command the deliveries go in the order RSV, FU, RSE, BU (log 7). -/

namespace Sys2Proof.Machine

/-- The border section occupancy a line reports (R160). -/
def State.borderReport (s : State) (r : Line) : Occupancy :=
  if s.isWithdrawn r.border then .unknown else s.occupancy r.border

/-- Each line with a slot whose reported border occupancy differs from an earlier state has its image handed
(R160). -/
def State.handChangedBorders (before after : State) (e : Nat) : State :=
  forEach (after.bu.filter fun p => p.2.slot.isSome && p.2.border == e)
    (fun p s => if before.borderReport p.2 = s.borderReport p.2 then s else s.hand p.1 .lineImage) after

/-- The border section of a line has become OCCUPIED: a passed incoming offer ends (R159). -/
def State.borderOccupied (e : Nat) (l : Nat) (s : State) : State :=
  match s.line l with
  | some r =>
    if r.slot.isSome ∧ r.border = e ∧ r.inOffer.any (fun o => o.accepted && o.passed) then s.endReservation l else s
  | none => s

/-- Occupancy written; a change is handed to RSV, FU, RSE and BU (R14, R28). -/
def State.writeOccupancy (s : State) (e : Nat) (new : Occupancy) : State :=
  match s.sectionAt e with
  | some b =>
    if b.occupancy = new then s
    else
      let s1 := s.modSection e fun b => { b with occupancy := new }
      let s2 := forEach s1.slots (State.sectionEvent e new) s1
      let s3 := s2.reevaluate e
      let s4 := State.triggerIf (new == .clear || b.occupancy == .unknown) s3
      let s5 := State.handChangedBorders s s4 e
      if new = .occupied then forEach (s5.bu.map (·.1)) (State.borderOccupied e) s5 else s5
  | none => s

/-- A change of detection handed to RSV, FU and RSE (R15). -/
def State.detectionEvent (s : State) (e : Nat) (old : Detection) : State :=
  State.triggerIf (old == .unknown) (s.reviewAll.reevaluate e)

/-- A completed throw offers its elapsed time to the capture (R16, R36). -/
def State.offerCapture (s : State) (e elapsed : Nat) : State :=
  match s.pointsAt e with
  | some b =>
    if b.captureHeld then s.modPoints e fun b => { b with captureMissed := true }
    else (s.modPoints e fun b => { b with captureHeld := true, captureValue := min 150 elapsed }).latch .captureReady
  | none => s

/-- The judgment of a change of detection while the points are not moving (R38). -/
def State.judgeDetection (s : State) (e : Nat) (b : PointsBody) (new : Detection) : State :=
  if !new.inPosition then if b.detection.inPosition then s.latchFault e .detectionLost else s
  else match b.demanded with
    | some p => if new = p.detection then s else (s.latchFault e .unsolicitedMove).joinDemand e
    | none => s

/-- Detection written; a change follows the throw rules and is handed on, together with a change of the moving flag
(R35, R36, R38). -/
def State.writeDetection (s : State) (e : Nat) (new : Detection) : State :=
  match s.pointsAt e with
  | some b =>
    if b.detection = new then s
    else
      let s1 := s.modPoints e fun b => { b with detection := new }
      let s2 :=
        if b.moving then
          if b.demanded.any (fun p => p.detection == new) then
            ((s1.modPoints e fun b => { b with moving := false, throwTimer := none }).offerCapture e
              (throwTime b.throwLimit - b.throwTimer.getD 0)).movingCleared e
          else s1
        else s1.judgeDetection e b new
      s2.detectionEvent e b.detection
  | none => s

/-- The entry signal's shown aspect has become PROCEED for a replaced record (R99, R103). -/
def State.proceedShown (e slot : Nat) (s : State) : State :=
  match s.routeRecord slot with
  | some r =>
    if r.definition.entry = e ∧ r.state = .locked ∧ r.replaced.isSome then
      (s.modRecord slot fun r => { r with shownProceed := true }).enterIfOccupied slot
    else s
  | none => s

/-- The proven flag of an entry signal is lost (R100). -/
def State.proofLost (e slot : Nat) (s : State) : State :=
  match s.routeRecord slot with
  | some r => if r.definition.entry = e ∧ r.state = .cleared then s.replace slot .signalLost e else s
  | none => s

/-- The proven flag of an entry signal is set (R98). -/
def State.proofMade (e slot : Nat) (s : State) : State :=
  match s.routeRecord slot with
  | some r =>
    if r.definition.entry = e ∧ r.state = .clearing then
      s.modRecord slot fun r => { r with state := .cleared, shownProceed := true }
    else s
  | none => s

/-- The proving timer of an entry signal has expired (R100). -/
def State.notProvenEvent (e slot : Nat) (s : State) : State :=
  match s.routeRecord slot with
  | some r => if r.definition.entry = e ∧ r.state = .clearing then s.replace slot .notProven e else s
  | none => s

/-- A change of the shown aspect handed to RSV, with the loss of proof it is, and to FU (R17). -/
def State.shownEvent (s : State) (e : Nat) (new : Shown) (proofLost : Bool) : State :=
  let s1 := if proofLost then forEach s.slots (State.proofLost e) s else s
  let s2 := if new = .proceed then forEach s1.slots (State.proceedShown e) s1 else s1
  s2.reevaluate e

/-- A shown aspect written: leaving PROCEED clears the proven flag, and a change is handed on (R17). Then an aspect other
than PROCEED stops the return window, one that a replacement of the same event has started among them (R28, R41). -/
def State.writeShown (s : State) (e : Nat) (new : Shown) : State :=
  match s.signalAt e with
  | some b =>
    let s1 := s.modSignal e fun b => { b with shown := new, proven := b.proven && new == .proceed }
    let s2 := if b.shown = new then s1 else s1.shownEvent e new (b.proven && new != .proceed)
    if new = .proceed then s2 else s2.modSignal e fun b => { b with returnWindow := none }
  | none => s

/-- The withdrawn mark of an element set (R8). -/
def State.markWithdrawn (e : Nat) (s : State) : State := s.modElement e fun r => { r with withdrawn := true }

/-- What follows for one element whose mark has been set since state `before`: the events to FU and RSV (R8), and the
image of the line whose border section it is (R160, log 25). -/
def State.withdrawalEvents (before : State) (e : Nat) (s : State) : State :=
  State.handChangedBorders before ((s.reevaluate e).reviewAll) e

/-- Elements withdrawn together (R8): first the marks of all that have a record and no mark, then their events. -/
def State.withdrawElements (s : State) (es : List Nat) : State :=
  let newly := es.filter fun e => (s.element e).any fun r => !r.withdrawn
  forEach newly (State.withdrawalEvents s) (forEach newly State.markWithdrawn s)

/-- The boundary element of a line. -/
def State.boundaryOf (s : State) (l : Nat) : Option Nat := (s.line l).bind (·.boundary)

/-- All images of a line's boundary element UNKNOWN, the view UNKNOWN, the conflict mark clear (R147, R162). -/
def State.blankImages (s : State) (l : Nat) : State :=
  let s1 := match s.boundaryOf l with
    | some e => s.modBoundary e fun b => { b with image := .unknown, items := b.items.map fun _ => .unknown }
    | none => s
  s1.modLine l fun r => { r with view := .unknown, conflict := false }

/-- BU's own writes for a line that becomes WITHDRAWN in operation (R147). -/
def State.markLineWithdrawn (l : Nat) (s : State) : State :=
  (s.modLine l fun r => { r with withdrawn := true }).blankImages l

/-- The withdrawal of a line handed to FU and RSV (R91, R147). -/
def State.lineWithdrawalEvents (l : Nat) (s : State) : State := (s.flankLineWithdrawn l).reviewAll

/-- Lines withdrawn together (R147, R179): first BU's writes for all that are defined and in service, then their events,
line after line. -/
def State.withdrawLines (s : State) (ls : List Nat) : State :=
  let newly := ls.filter fun l => (s.line l).any fun r => !r.withdrawn
  forEach newly State.lineWithdrawalEvents (forEach newly State.markLineWithdrawn s)

/-- An outgoing offer at link down: OFFERED becomes WITHDRAW_OWED with no slot, every other is kept (R162). -/
def OutOffer.atLinkDown (o : OutOffer) : OutOffer :=
  if o.state = .offered then { o with slot := none, state := .withdrawOwed, deadline := none } else o

/-- Link down for a line (R162), to the end of its events: all the line's images are UNKNOWN before the first record is
tested for it, and at the drop of a slot with several lines, the images of a later line still stand when the records are
tested for an earlier one, which is the model's choice (log 7). -/
def State.lineDown (l : Nat) (s : State) : State :=
  match s.line l with
  | some r =>
    let s1 := s.blankImages l
    let s2 := s1.endAsk l
    let s3 := s2.modLine l fun r =>
      { r with outOffer := r.outOffer.map OutOffer.atLinkDown, inOffer := r.inOffer.filter (·.accepted) }
    let s4 : State := match r.ask with
      | some a => s3.failHandover a.slot .linkDown
      | none => s3
    let s5 : State := match r.outOffer with
      | some o => if o.state = .offered then (o.slot.map (s4.failHandover · .linkDown)).getD s4 else s4
      | none => s4
    (s5.flankLinkDown l).reviewAll
  | none => s

/-- The handover context of a route whose offer has lapsed: OFFERED, with the offer number (R163). In TIMED_RELEASE no field
of the record notes a link event, and the context stays (R123; R123 beside R163 is log 31). -/
def RouteRecord.lapsed (r : RouteRecord) (number : Byte) : RouteRecord :=
  if r.state = .timedRelease then r
  else { r with handover := r.handover.map fun h => { h with status := .offered, offer := some number } }

/-- A line's ACCEPTED outgoing offer has lapsed, and BU writes the route's handover context (R163, R123). -/
def State.lapseHandover (s : State) (o : OutOffer) : State :=
  match o.slot with
  | some n => s.modRecord n fun r => r.lapsed o.number
  | none => s

/-- Link up for a line, with the peer restart indication (R163). BU's WITHDRAW of an owed offer is handed before FU's
FLANK_FREEs of the owed entries, and these in ascending item index, which is the model's choice (log 36). -/
def State.lineUpEvent (restarted : Bool) (l : Nat) (s : State) : State :=
  match s.line l with
  | some r =>
    let s1 := s.modLine l fun r => { r with resetTimer := none }
    let s2 :=
      if restarted then
        let a := if r.token = .rest .inward then s1.setToken l (.rest .unset) else s1
        let b := if r.inOffer.any (·.accepted) then a.endReservation l else a
        match r.outOffer with
        | some o =>
          match o.state with
          | .withdrawOwed => b.modLine l fun r => { r with outOffer := none, transit := false }
          | .accepted => (b.modLine l fun r => { r with outOffer := some { o with state := .lapsed } }).lapseHandover o
          | _ => b
        | none => b
      else
        match r.outOffer with
        | some o =>
          if o.state = .withdrawOwed then
            (s1.hand l (.withdraw o.number)).modLine l fun r => { r with outOffer := none, transit := false }
          else s1
        | none => s1
    (s2.flankLinkUp l restarted).reviewAll
  | none => s

/-- The `n` identifiers from `first` on. -/
def idsFrom (first n : Nat) : List Nat := (List.range n).map fun i => first + i

/-- A map entry as the erased store has it (R25). -/
def MapEntry.erased : MapEntry := { matchValue := 0xFFFF, mask := 0xFFFF, base := 0xFFFF, window := 0xFFFF }

/-- A group withdrawn before it was read (R69). -/
def Group.unread : Group := { available := false, protectedElement := 0, position := .normal, alternatives := [] }

/-- A flank group becomes UNAVAILABLE, one that was NOT_DEFINED too (R69). -/
def State.withdrawGroup (g : Nat) (s : State) : State :=
  let r := (s.fu.groups.find g).getD .unread
  { s with fu := { s.fu with groups := s.fu.groups.put g { r with available := false } } }

/-- A route becomes UNAVAILABLE, one that was NOT_DEFINED too; outcome and unread mark stay (R45). -/
def State.withdrawRoute (r : Nat) (s : State) : State :=
  let t := (s.rse.table.find r).getD { available := false, definition := none }
  { s with rse := { s.rse with table := s.rse.table.put r { t with available := false } } }

/-- A segment found uncorrectable in operation: the withdrawal delivered to the blocks that built records from it,
with one retry trigger (R179). -/
def State.deliverWithdrawal (s : State) (g : Nat) : State :=
  if g = 0 then s
  else
    let s1 :=
      if g ≤ 32 then s.withdrawElements (idsFrom (16 * (g - 1)) 16)
      else if g = 33 then { s with fi := { s.fi with map := s.fi.map.map fun _ => .erased } }
      else if g ≤ 35 then s.withdrawLines (idsFrom (8 * (g - 34)) 8)
      else if g ≤ 51 then forEach (idsFrom (16 * (g - 36)) 16) State.withdrawGroup s
      else forEach (idsFrom (2 * (g - 52)) 2) State.withdrawRoute s
    s1.trigger

/-- Entry to HALTED (R180): scan stopped, notices, records replaced (R102), signals at STOP (R34), PENDING_HOST
offers declined (R167). -/
def State.enterHalted (s : State) : State :=
  let s1 := { s with mode := .halted, ts := { s.ts with scanTimer := none } }.latch .modeChange
  let s2 := forEach s1.slots (fun n s =>
    match s.routeRecord n with
    | some r => s.replace n .halted r.definition.entry
    | none => s) s1
  let s3 := s2.stopAllSignals
  forEach (s3.bu.map (·.1)) (fun l s => s.declinePending l .halted) s3

end Sys2Proof.Machine
end

