-- ==== Sys2Proof/Machine/RouteSetter.lean ====
section
/-! DEFINITION. The route setter: the nine checks (R50 to R55), the take (R56 to R58), the request queue
(R61, R62), the examination pass (R64) and the passes that a command's retry triggers start (R63). -/

namespace Sys2Proof.Machine

/-- Whether a refusal reason may pass with time (R55). -/
def Reason.waitable : Reason → Bool
  | .entryHeld | .locked | .occupied | .unknown | .claimed | .linkDown | .flank | .recordsFull
  | .claimTableFull => true
  | _ => false

/-- A failing check: its reason and the element reported. -/
abbrev CheckFailure := Reason × Option Nat

/-- Check 1 (R51). -/
def State.checkAvailable (s : State) (r : RouteEntry) (d : Definition) : Option CheckFailure :=
  if !r.available then some (.unavailable, none)
  else match d.flanks.find? fun f => (s.fu.groups.find f.1).any fun g => !g.available with
  | some f => some (.unavailable, some (d.tiedElement f.2))
  | none =>
    if (d.line.bind s.line).any (·.withdrawn) then some (.unavailable, some d.exit)
    else ((d.exit :: d.beyond.toList ++ d.approach).find? s.isWithdrawn).map fun e => (.unavailable, some e)

/-- Check 2 (R52). -/
def State.checkEntry (s : State) (d : Definition) : Option CheckFailure :=
  if (s.lockOf d.entry).isSome || (s.claimOn d.entry).any (fun c => c.2.demand == .signalStop) then
    some (.entryHeld, some d.entry)
  else none

/-- Check 3 (R52). -/
def State.checkService (s : State) (d : Definition) : Option CheckFailure :=
  (d.entry :: (d.path ++ d.overlap).map (·.element)).findSome? fun e =>
    match s.element e with
    | some r => if r.withdrawn then some (.unavailable, some e) else if r.blocked then some (.blocked, some e) else none
    | none => none

/-- Check 4 (R53). -/
def State.checkLocks (s : State) (d : Definition) : Option CheckFailure :=
  ((d.path ++ d.overlap).find? fun x =>
    (s.lockOf x.element).isSome || (x.position.isSome && (s.pointsAt x.element).any (·.moving))).map
      fun x => (.locked, some x.element)

/-- Check 5 (R53). -/
def State.checkOccupancy (s : State) (d : Definition) : Option CheckFailure :=
  (d.path ++ d.overlap).findSome? fun x =>
    if x.position.isSome then none
    else match s.occupancy x.element with
      | .clear => none
      | .occupied => some (.occupied, some x.element)
      | .unknown => some (.unknown, some x.element)

/-- Check 6 (R53). -/
def State.checkClaims (s : State) (d : Definition) : Option CheckFailure :=
  ((d.path ++ d.overlap).find? fun x =>
    match s.claimOn x.element with
    | some (_, c) =>
      match x.position with
      | some p => c.demand == claimFor p.opposite
      | none => c.demand == .sectionClear
    | none => false).map fun x => (.claimed, some x.element)

/-- Check 7 (R54). -/
def State.checkLink (s : State) (d : Definition) : Option CheckFailure :=
  match d.line with
  | some l => if s.lineUp l then none else some (.linkDown, some d.exit)
  | none => none

/-- Check 8: the alternatives chosen for the references left, given the LOCAL ones already chosen (R54). -/
def State.chooseFlanks (s : State) (d : Definition) :
    List (Nat × Nat) → List (Nat × Demand) → Except CheckFailure (List (Nat × Alternative))
  | [], _ => .ok []
  | f :: fs, chosen =>
    match s.search (.candidate d chosen) f.1 1 with
    | none => .error (.flank, some (d.tiedElement f.2))
    | some x =>
      let chosen' := match x.2 with
        | .localAlt e dem => chosen ++ [(e, dem)]
        | .remoteAlt _ _ => chosen
      match s.chooseFlanks d fs chosen' with
      | .ok xs => .ok (x :: xs)
      | .error r => .error r

/-- The new claim records that a take would create (R54). -/
def State.newClaims (s : State) (xs : List (Nat × Alternative)) : Nat :=
  ((xs.filterMap fun x => match x.2 with
    | .localAlt e _ => if (s.claimOn e).isSome then none else some e
    | .remoteAlt _ _ => none).eraseDups).length

/-- Check 9 (R54). -/
def State.checkCapacity (s : State) (xs : List (Nat × Alternative)) : Option CheckFailure :=
  if (s.rsv.lowestFree Config.routeSlots).isNone then some (.recordsFull, none)
  else if Config.claims - s.fu.claims.length < s.newClaims xs then some (.claimTableFull, none)
  else none

/-- The examination of a route (R50): the first failing check, or the definition with the alternatives chosen. -/
def State.examine (s : State) (route : Nat) :
    Except CheckFailure (Definition × List (Nat × Alternative)) :=
  match s.rse.table.find route with
  | none => .error (.unavailable, none)
  | some r =>
    match r.definition with
    | none => .error (.unavailable, none)
    | some d =>
      match (s.checkAvailable r d).or ((s.checkEntry d).or ((s.checkService d).or ((s.checkLocks d).or
          ((s.checkOccupancy d).or ((s.checkClaims d).or (s.checkLink d)))))) with
      | some f => .error f
      | none =>
        match s.chooseFlanks d d.flanks [] with
        | .error f => .error f
        | .ok xs =>
          match s.checkCapacity xs with
          | some f => .error f
          | none => .ok (d, xs)

/-- A lock written on an element that has none (R9). -/
def State.writeLock (s : State) (e : Nat) (h : Lock) : State :=
  s.modElement e fun r => if r.lock.isSome then r else { r with lock := some h }

/-- The record of a take (R57), before its references are adopted. -/
def newRecord (route : Nat) (hold : Bool) (d : Definition) : RouteRecord :=
  { route := route, state := if d.line.isSome then .handoverWait else .setting, hold := hold,
    steps := stepsOf d.path, overlapStatus := if d.overlap = [] then .released else .held,
    flanks := d.flanks.map fun f => { group := f.1, tied := f.2, alternative := none, state := .released },
    definition := d }

/-- The point demands of a take (R56). -/
def State.demandPoints (s : State) (d : Definition) : State :=
  forEach (d.path ++ d.overlap)
    (fun x s => match x.position, s.pointsAt x.element with
      | some p, some b =>
        if b.detection = p.detection ∧ b.demanded = some p then s else s.writePointsDemand x.element p
      | _, _ => s) s

/-- The take of a route into a slot (R56). The FLANK_ASKs of its references are handed in ascending reference index and
before its DIR_ASK or OFFER, which is the model's choice (log 36). -/
def State.take (s : State) (route : Nat) (hold : Bool) (slot : Nat) (d : Definition)
    (xs : List (Nat × Alternative)) : State :=
  let s1 := { s with rsv := s.rsv.put slot (newRecord route hold d) }
  let s2 := forEach (d.entry :: d.path.map (·.element)) (fun e s => s.writeLock e (.route slot .path)) s1
  let s3 := forEach (d.overlap.map (·.element)) (fun e s => s.writeLock e (.route slot .overlap)) s2
  let s4 := forEach (xs.zipIdx) (fun x s => s.adopt slot x.2 x.1.1 x.1.2) s3
  let s5 := s4.demandPoints d
  let s6 := match d.line with
    | some l =>
      let (t, h) := s5.startHandover l slot d.priority
      t.modRecord slot fun r => { r with handover := some h }
    | none => s5
  s6.testSetting slot

/-- A request stored at the tail of the queue (R62). -/
def State.joinQueue (s : State) (q : QueueEntry) : State :=
  let queue := s.rse.queue ++ [q]
  State.latchIf (queue.length == 15) .queueNearlyFull { s with rse := { s.rse with queue := queue } }

/-- The entry of a route leaves the queue (R61). -/
def State.leaveQueue (s : State) (route : Nat) : State :=
  { s with rse := { s.rse with queue := s.rse.queue.filter fun q => q.route != route } }

/-- One stored entry examined in a pass (R64). -/
def State.examineEntry (route : Nat) (s : State) : State :=
  match s.rse.queue.find? fun q => q.route == route with
  | none => s
  | some q =>
    match s.examine route with
    | .ok (d, xs) =>
      match s.rsv.lowestFree Config.routeSlots with
      | some slot => (s.leaveQueue route).take route q.hold slot d xs
      | none => s
    | .error (reason, e) =>
      if reason.waitable then
        { s with rse := { s.rse with queue := s.rse.queue.map fun q =>
          if q.route = route then { q with reason := reason, element := e } else q } }
      else (s.leaveQueue route).writeOutcome route (.failed reason e)

/-- An examination pass over the stored entries, the oldest first (R64). -/
def State.pass (s : State) : State := forEach (s.rse.queue.map (·.route)) State.examineEntry s

/-- No retry trigger waits. -/
def State.spent (s : State) : State := { s with rse := { s.rse with triggers := 0 } }

/-- The end of a command: in OPERATING one pass for each retry trigger it handed RSE; elsewhere none (R63, log 6). A
trigger handed within a pass does not arise (log 24). -/
def State.settle (s : State) : State :=
  if s.mode = .operating then (forEach (List.range s.rse.triggers) (fun _ s => s.pass) s.spent).spent else s.spent

end Sys2Proof.Machine
end

