-- ==== Sys2Proof/Machine/Layout.lean ====
section
/-! DEFINITION. The answers as they are sent (R183, R194): the response frame, and the data of the answers with the
fields in the order the owning rule names them. A field that is absent or does not apply is all ones in its width, a
reason field whose value is none is 00h. The choices R194 leaves are log 15. -/

namespace Sys2Proof.Machine

/-- The response frame (R183): the marker, then status, data length and data with the CRC-16 over these three. -/
def Answer.frame (a : Answer) : List Byte :=
  let body := a.status :: BitVec.ofNat 8 a.data.length :: a.data
  0x5A :: (body ++ Word.bytes (crc16 body))

def byteOf (n : Nat) : Byte := BitVec.ofNat 8 n
def wordBytes (n : Nat) : List Byte := Word.bytes (BitVec.ofNat 16 n)
/-- An optional one-byte field. -/
def optByte (o : Option Nat) : Byte := (o.map byteOf).getD 0xFF
/-- An optional two-byte field. -/
def optWord (o : Option Nat) : List Byte := (o.map wordBytes).getD [0xFF, 0xFF]
/-- A timer remaining; FFFFh while stopped. -/
def timerBytes (t : Timer) : List Byte := optWord t
/-- A reason field that holds a reason or none: 00h for none (last error kind, last drop reason, mismatch reason). -/
def reasonByte (r : Option Reason) : Byte := (r.map Reason.code).getD 0
/-- A reason that is present or absent: all ones where it is absent. -/
def presentReason (r : Option Reason) : Byte := (r.map Reason.code).getD 0xFF
/-- A list: a count byte and its entries. -/
def listBytes {α : Type} (xs : List α) (f : α → List Byte) : List Byte := byteOf xs.length :: xs.flatMap f

def Mode.code : Mode → Byte
  | .configuration => 0 | .starting => 1 | .operating => 2 | .halted => 3
def ReadClass.code : ReadClass → Byte
  | .clean => 0 | .correctedLow => 1 | .correctedHigh => 2 | .uncorrectable => 3
/-- A route record's state. No value list of the manual has all eight states: those of R57, of the table of 5.1 and of
chapter 6 are numbered one after the other, which is the model's choice (log 32). -/
def RecordState.code : RecordState → Byte
  | .setting => 0 | .handoverWait => 1 | .locked => 2 | .clearing => 3 | .cleared => 4 | .inUse => 5
  | .approachHold => 6 | .timedRelease => 7
def OverlapStatus.code : OverlapStatus → Byte
  | .held => 0 | .timing => 1 | .overrun => 2 | .released => 3
def RefState.code : RefState → Byte
  | .held => 0 | .localPending => 1 | .remotePending => 2 | .released => 3
def HandoverStatus.code : HandoverStatus → Byte
  | .direction => 0 | .offered => 1 | .accepted => 2 | .passed => 3
def GrantState.code : GrantState → Byte
  | .owed => 0 | .granted => 1 | .denied => 2
def ItemState.code : ItemState → Byte
  | .idle => 0 | .asked => 1 | .granted => 2 | .freeOwed => 3 | .stale => 4
def LinkState.code : LinkState → Byte
  | .off => 0 | .holdoff => 1 | .hunt => 2 | .ident => 3 | .up => 4
def OfferState.code : OfferState → Byte
  | .offered => 0 | .accepted => 1 | .lapsed => 2 | .withdrawOwed => 3

/-- A segment's state (R169): ERASED, PROGRAMMED, FROZEN_GOOD, FROZEN_MARGINAL, WITHDRAWN. -/
def Segment.stateCode (g : Segment) : Byte :=
  if g.frozen then match g.condition with | .good => 2 | .marginal => 3 | .withdrawn => 4
  else if g.count = 0 then 0 else 1

def kindByte : Body → Byte
  | .sect _ => 1 | .points _ => 2 | .signal _ => 3 | .boundary _ => 4 | .none => 0xFF

/-- The static fields of every kind, those of other kinds absent (R21, clamped as R2 and R3 say). -/
def staticBytes (b : Body) : List Byte :=
  (match b with
    | .sect b => wordBytes (lengthInEffect b.length) ++ [byteOf (supervisionTime b.timeout)]
    | _ => [0xFF, 0xFF, 0xFF])
  ++ (match b with
    | .points b => wordBytes b.containing ++ [byteOf (throwTime b.throwLimit), byteOf (supervisionTime b.timeout)]
    | _ => [0xFF, 0xFF, 0xFF, 0xFF])
  ++ (match b with
    | .signal b => [byteOf (provingTenths b.provingTime), byteOf (supervisionTime b.timeout)]
    | _ => [0xFF, 0xFF])
  ++ (match b with
    | .boundary b => byteOf b.line :: wordBytes (lengthInEffect b.remoteLength)
    | _ => [0xFF, 0xFF, 0xFF])

/-- IN_SERVICE, BLOCKED or WITHDRAWN (R4). -/
def Element.serviceCode (r : Element) : Byte := if r.withdrawn then 2 else if r.blocked then 1 else 0

def lockBytes : Option Lock → List Byte
  | some (.route n role) => [0, byteOf n, (match role with | .path => 0 | .overlap => 1), 0xFF]
  | some (.entry l) => [1, 0xFF, 0xFF, byteOf l]
  | none => [0xFF, 0xFF, 0xFF, 0xFF]

/-- The kind state of every kind (R21). The eight item images of a BOUNDARY element are sent as eight bytes without a
count, which is the model's choice (log 15). -/
def kindStateBytes (b : Body) : List Byte :=
  (match b with | .sect b => [b.occupancy.code] | _ => [0xFF])
  ++ (match b with
    | .points b =>
      [b.detection.code, ((b.demanded.map Position.code).getD 0), flagByte b.moving] ++ timerBytes b.throwTimer
        ++ [byteOf b.captureValue, flagByte b.captureHeld, flagByte b.captureMissed]
    | _ => List.replicate 8 0xFF)
  ++ (match b with
    | .signal b => [b.demanded.code, b.shown.code, flagByte b.proven] ++ timerBytes b.proving
    | _ => List.replicate 5 0xFF)
  ++ (match b with
    | .boundary b => byteOf b.line :: b.image.code :: b.items.map ItemImage.code
    | _ => List.replicate 10 0xFF)

/-- QUERY_ELEMENT (R21). -/
def elementAnswer (e : Nat) (r : Element) : List Byte :=
  wordBytes e ++ [kindByte r.body, optByte r.segment] ++ Word.bytes r.objectAddress ++ staticBytes r.body
    ++ [r.serviceCode, flagByte r.blocked] ++ lockBytes r.lock ++ [optByte r.claim, r.faults.byte]
    ++ kindStateBytes r.body

/-- A last outcome with the reason and element it carries (R66); both are absent where it carries none. -/
def outcomeBytes : Option RouteOutcome → List Byte
  | none => [0xFF, 0xFF] ++ elementBytes none
  | some .set => [0, 0xFF] ++ elementBytes none
  | some (.failed r e) => [1, r.code] ++ elementBytes e
  | some (.storageTimeout r e) => [2, r.code] ++ elementBytes e
  | some .cancelled => [3, 0xFF] ++ elementBytes none
  | some .released => [4, 0xFF] ++ elementBytes none

def stepBytes (st : Step) : List Byte :=
  wordBytes st.sect ++ listBytes st.points fun x => wordBytes x.1 ++ [x.2.code]

def flankRefBytes (f : FlankRef) : List Byte :=
  [byteOf f.group, byteOf f.tied, optByte f.alternative, f.state.code]

/-- The record's fields in the order of R57, then the approach fields of its definition as stored (R118, log 29). -/
def recordBytes (slot : Nat) (r : RouteRecord) : List Byte :=
  [byteOf slot] ++ wordBytes r.route ++ [r.state.code, flagByte r.hold, flagByte r.shownProceed]
    ++ (presentReason (r.replaced.map (·.1)) :: elementBytes (r.replaced.map (·.2)))
    ++ listBytes r.steps stepBytes ++ [flagByte r.frontSeen, r.overlapStatus.code] ++ timerBytes r.overlapTimer
    ++ listBytes r.flanks flankRefBytes
    ++ (match r.handover with
        | some h => [byteOf h.line, h.offer.getD 0xFF, h.status.code]
        | none => [0xFF, 0xFF, 0xFF])
    ++ timerBytes r.holdTimer ++ [flagByte r.discrepancy]
    ++ [r.definition.speed] ++ Word.bytes r.definition.margin ++ [r.definition.tMin] ++ Word.bytes r.definition.tMax

/-- The fields of no record: absent, and its lists empty. -/
def noRecordBytes : List Byte :=
  List.replicate 6 0xFF ++ (0xFF :: elementBytes none) ++ [0] ++ List.replicate 4 0xFF ++ [0]
    ++ List.replicate 12 0xFF

/-- QUERY_ROUTE (R68). -/
def State.routeAnswer (s : State) (route : Nat) : List Byte :=
  (match s.rse.table.find route with
    | some r => (if r.available then 2 else 1) :: outcomeBytes r.outcome ++ [flagByte r.unread]
    | none => 0 :: outcomeBytes none ++ [0])
  ++ (match s.rse.queue.zipIdx.find? fun x => x.1.route == route with
    | some (q, i) => byteOf (i + 1) :: timerBytes q.timer ++ (q.reason.code :: elementBytes q.element)
    | none => List.replicate 4 0xFF ++ elementBytes none)
  ++ (match s.activeRecord route with
    | some (slot, r) => recordBytes slot r
    | none => noRecordBytes)

def holderBytes : Holder → List Byte
  | .route n u => [0, byteOf n, 0xFF, byteOf u, 0xFF, 0xFF, 0xFF]
  | .neighbour l k a g => [1, 0xFF, byteOf l, 1, byteOf k, a, g.code]

/-- A claim record's fields (R72), or a free record. -/
def claimAnswer : Option Claim → List Byte
  | some c =>
    wordBytes c.element ++ [c.demand.code] ++ listBytes c.holders holderBytes
      ++ [flagByte c.satisfied, if c.demand.position.isSome then flagByte c.move else 0xFF]
  | none => [0xFF, 0xFF, 0xFF, 0, 0xFF, 0xFF]

def itemBytes (it : RemoteItem) : List Byte :=
  [it.state.code, it.ask] ++ wordBytes it.refs.length ++ timerBytes it.askTimer ++ [it.lastReason]

/-- QUERY_CLAIM for a line (R92): the next ask number and the eight item entries, sent as a list with its count byte, which
is the model's choice (log 15). -/
def State.lineClaimAnswer (s : State) (l : Nat) : List Byte :=
  (s.fu.nextAsk.find l).getD 0 :: listBytes itemIndexes fun k => itemBytes (s.item l k)

/-- QUERY_LINE (R166). A line withdrawn at START carries its id and service only. -/
def State.lineAnswer (s : State) (l : Nat) (r : Line) : List Byte :=
  match r.slot with
  | none => byteOf l :: List.replicate 8 0xFF ++ [0, 1] ++ List.replicate 26 0xFF
  | some n =>
    [byteOf l, byteOf n, byteOf r.index] ++ optWord r.boundary ++ wordBytes r.border ++ wordBytes r.entrySignal
    ++ listBytes r.items (fun x => wordBytes x.1 ++ [x.2.code]) ++ [flagByte r.withdrawn]
    ++ [r.token.code, (match r.token with | .asking p => p.code | .rest _ => 0xFF)]
    ++ (match r.ask with
        | some a => byteOf a.slot :: Word.bytes a.word ++ timerBytes a.deadline
        | none => List.replicate 5 0xFF)
    ++ (match r.outOffer with
        | some o => [o.number, o.state.code, optByte o.slot] ++ timerBytes o.deadline
        | none => List.replicate 5 0xFF)
    ++ [r.nextOffer]
    ++ (match r.inOffer with
        | some o => [o.number, flagByte o.accepted, flagByte o.passed] ++ timerBytes o.deadline
        | none => List.replicate 5 0xFF)
    ++ [flagByte r.transit, r.view.code, flagByte r.conflict, r.policy.code, r.lastReason] ++ timerBytes r.resetTimer
    ++ [((s.slot n).map fun k => k.link.code).getD 0xFF]

/-- The slot record of LINK_CONTROL (R126, R144). -/
def slotAnswer (k : LinkSlot) : List Byte :=
  [flagByte k.enabled, optByte k.port, flagByte k.inverted] ++ Word.bytes k.expected
    ++ [byteOf (thresholdInEffect k.threshold)] ++ listBytes k.lines (fun l => [byteOf l])
    ++ [k.link.code, flagByte k.restartPending, flagByte k.peerRestart, flagByte k.answerMark, byteOf k.sync,
        k.txSequence, k.rxSequence.getD 0xFF, byteOf k.level, byteOf k.goodRun]
    ++ wordBytes k.errors ++ wordBytes k.drops
    ++ [reasonByte k.lastError, reasonByte k.lastDrop, reasonByte k.mismatch]

/-- READ_COUNTERS (R192). -/
def State.counterAnswer (s : State) : List Byte :=
  wordBytes s.fi.unmapped ++ wordBytes s.fi.kindMismatch ++ wordBytes s.fi.badCheck
    ++ s.lk.flatMap fun p =>
      wordBytes p.2.errors ++ wordBytes p.2.drops ++ [byteOf p.2.level, reasonByte p.2.lastError, reasonByte p.2.lastDrop]

/-- STATUS (R191). -/
def State.statusAnswer (s : State) : List Byte :=
  [s.mode.code, flagByte s.ts.op.isSome]
    ++ (match s.ts.lastStart with
        | none => [0xFF, 0xFF, 0xFF, 0xFF]
        | some .succeeded => [0, 0xFF, 0xFF, 0xFF]
        | some (.failed g p r) => [1, byteOf g, byteOf p, r.code])
    ++ [byteOf s.rsv.length, byteOf s.rse.queue.length, byteOf s.fu.claims.length,
        if s.mode = .operating then byteOf s.ts.scanPosition else 0xFF]

/-- IDENTIFY (R190). -/
def State.identifyAnswer (s : State) : List Byte :=
  wordBytes 0x0410 ++ [Config.siliconRevision, 1, 1]
    ++ Word.bytes (if s.mode = .operating ∨ s.mode = .halted then s.areaId else 0)

/-- A set of notices or enables as two bytes (R194). -/
def noticeBytes (n : BitVec 9) : List Byte := Word.bytes (n.setWidth 16)

end Sys2Proof.Machine
end

