-- ==== Sys2Proof/Machine/CommandPort.lean ====
section
/-! DEFINITION. The frame receiver (R182, R183), bad frames (R184), and the requests of CP itself: IDENTIFY, STATUS,
READ_NOTICES, SET_NOTICE_ENABLES, NEXT_OUTCOME, NEXT_FAULT, READ_COUNTERS. -/

namespace Sys2Proof.Machine

/-- Every mode (R185's columns C, S, O, H). -/
def everyMode : List Mode := [.configuration, .starting, .operating, .halted]
/-- The modes of the queries. -/
def servingModes : List Mode := [.operating, .halted]

/-- The bytes of a response and those of 0xFF before it, of which there are at most 8 (R183); how many is a free value
(log 38). -/
def State.response (s : State) : List Byte :=
  List.replicate (Config.answerLead s.fresh % 9) 0xFF ++ (s.cp.answer.map Answer.frame).getD []

/-- Byte `i` that the device sends on data-out since its receiver entered the present state: none in IDLE, 0xFF while
RECEIVING (R182), in ANSWERING the response and then 0xFF until select rises (R183). It is an output of the state, and in no
list of what was sent (log 5). -/
def State.dataOut (s : State) (i : Nat) : Option Byte :=
  match s.cp.receiver with
  | .idle => none
  | .receiving => some 0xFF
  | .answering => some ((s.response[i]?).getD 0xFF)

/-- Select falls: IDLE becomes RECEIVING (R182). The free value of the transaction is drawn (log 38). -/
def execSelectFall (s : State) : Host.Outcome State Fault Refusal :=
  .next (if s.cp.receiver = .idle then
      { s with cp := { s.cp with receiver := .receiving, answer := none }, fresh := s.fresh + 1 }
    else s)

/-- Select rises before the frame is complete: it is discarded (R182). -/
def execPartialFrameDiscard (s : State) : Host.Outcome State Fault Refusal :=
  .next (if s.cp.receiver = .receiving then { s with cp := { s.cp with receiver := .idle } } else s)

/-- A complete frame that R184 judges bad is answered BAD_FRAME and has no effect. -/
def execBadFrame (frame : List Byte) (s : State) : Host.Outcome State Fault Refusal :=
  .next (if s.cp.receiver = .receiving ∧ judgeFrame frame = .bad then s.reply .badFrame [] else s)

/-- Select rises in ANSWERING: the receiver is IDLE and what was not collected is lost (R183). -/
def execTransactionEnd (s : State) : Host.Outcome State Fault Refusal :=
  .next (if s.cp.receiver = .answering then { s with cp := { s.cp with receiver := .idle, answer := none } } else s)

/-- IDENTIFY (R190). -/
def execIdentify (s : State) : Host.Outcome State Fault Refusal :=
  .next (s.request everyMode fun s => s.done s.identifyAnswer)

/-- STATUS (R191). -/
def execStatus (s : State) : Host.Outcome State Fault Refusal :=
  .next (s.request everyMode fun s => s.done s.statusAnswer)

/-- READ_NOTICES (R188): the latches reported are cleared in the same step. -/
def State.readNotices (s : State) : State :=
  { s with cp := { s.cp with latches := 0 } }.done
    (noticeBytes s.cp.latches ++ noticeBytes s.cp.enables ++ [flagByte s.cp.master])

def execReadNotices (s : State) : Host.Outcome State Fault Refusal :=
  .next (s.request everyMode State.readNotices)

/-- SET_NOTICE_ENABLES (R187): enable bits 9 to 15 disregarded. -/
def State.setEnables (enables : Word) (master : Byte) (s : State) : State :=
  if master = 0 ∨ master = 1 then
    let e : BitVec 9 := enables.setWidth 9
    { s with cp := { s.cp with enables := e, master := master == 1 } }.done (noticeBytes e ++ [master])
  else s.refuse .notDefined

def execSetNoticeEnables (enables : Word) (master : Byte) (s : State) : Host.Outcome State Fault Refusal :=
  .next (s.request [.configuration, .starting, .operating] (State.setEnables enables master))

/-- NEXT_OUTCOME (R67). -/
def State.nextOutcome (s : State) : State :=
  match s.rse.table.find? fun p => p.2.unread with
  | some (r, e) =>
    { s with rse := { s.rse with table := s.rse.table.adjust r fun e => { e with unread := false } } }.done
      (wordBytes r ++ outcomeBytes e.outcome)
  | none => s.done ([0xFF, 0xFF] ++ outcomeBytes none)

def execNextOutcome (s : State) : Host.Outcome State Fault Refusal :=
  .next (s.request servingModes State.nextOutcome)

/-- NEXT_FAULT (R13, R189): exactly the flags reported are cleared. -/
def State.nextFault (s : State) : State :=
  match s.es.find? fun p => p.2.faults.byte != 0 with
  | some (e, r) => (s.modElement e fun r => { r with faults := {} }).done (wordBytes e ++ [r.faults.byte])
  | none => s.done [0xFF, 0xFF, 0]

def execNextFault (s : State) : Host.Outcome State Fault Refusal :=
  .next (s.request servingModes State.nextFault)

/-- READ_COUNTERS (R44, R144, R192). A clear option other than 00h and 01h is refused, which is the model's choice
(log 35). -/
def State.readCounters (clear : Byte) (s : State) : State :=
  if clear = 0 then s.done s.counterAnswer
  else if clear = 1 then
    { s with
      fi := { s.fi with unmapped := 0, kindMismatch := 0, badCheck := 0 }
      lk := s.lk.map fun (p : Nat × LinkSlot) => (p.1, { p.2 with errors := 0, drops := 0 }) }.done s.counterAnswer
  else s.refuse .notDefined

def execReadCounters (clear : Byte) (s : State) : Host.Outcome State Fault Refusal :=
  .next (s.request everyMode (State.readCounters clear))

end Sys2Proof.Machine
end

