-- ==== Sys2Proof/Machine/ElementCommands.lean ====
section
/-! DEFINITION. The requests on elements: BLOCK, UNBLOCK (R5, R6), MOVE_POINTS (R20), QUERY_ELEMENT (R21). -/

namespace Sys2Proof.Machine

/-- The rule of a request that names an element: NOT_DEFINED for an id above 511 or without a record (R1). -/
def State.onElement (s : State) (e : Word) (rule : Nat → Element → State) : State :=
  match s.element e.toNat with
  | some r => if e.toNat < Config.elements then rule e.toNat r else s.refuse .notDefined
  | none => s.refuse .notDefined

/-- BLOCK (R5). -/
def execBlock (element : Word) (s : State) : Host.Outcome State Fault Refusal :=
  .next (s.request [.operating] fun s =>
    s.onElement element fun e _ => (s.modElement e fun r => { r with blocked := true }).done)

/-- UNBLOCK (R6). -/
def execUnblock (element : Word) (s : State) : Host.Outcome State Fault Refusal :=
  .next (s.request [.operating] fun s =>
    s.onElement element fun e _ => (s.modElement e fun r => { r with blocked := false }).done)

/-- Orders 8 to 12 of R20, for free points. -/
def State.moveFree (s : State) (e : Nat) (b : PointsBody) (p : Position) : State :=
  if b.detection = p.detection then s.done
  else if b.moving ∧ b.demanded = some p then s.done
  else if s.occupancy b.containing ≠ .clear ∨ s.isWithdrawn b.containing then s.refuse .sectionNotClear
  else if b.moving then s.refuse .moving
  else (s.writePointsDemand e p).done

/-- MOVE_POINTS in OPERATING: orders 3 to 12 of R20; a position code outside its set is NOT_DEFINED (R184). -/
def State.movePoints (s : State) (position : Byte) (e : Nat) (r : Element) : State :=
  match r.body, positionOf position with
  | .points b, some p =>
    if r.withdrawn then s.refuse .withdrawn
    else if r.blocked then s.refuse .blocked
    else if r.lock.isSome then s.refuse .locked
    else if r.claim.isSome then s.refuse .claimed
    else s.moveFree e b p
  | .none, some _ => s.refuse .withdrawn
  | _, some _ => s.refuse .notPoints
  | _, none => s.refuse .notDefined

def execMovePoints (element : Word) (position : Byte) (s : State) : Host.Outcome State Fault Refusal :=
  .next (s.request [.operating] fun s => s.onElement element (s.movePoints position))

/-- The capture emptied by take-capture (R16). -/
def PointsBody.emptied (b : PointsBody) : PointsBody :=
  { b with captureValue := 0, captureHeld := false, captureMissed := false }

/-- QUERY_ELEMENT (R21); the take-capture option is bit 0. -/
def execQueryElement (element : Word) (takeCapture : Byte) (s : State) : Host.Outcome State Fault Refusal :=
  .next (s.request servingModes fun s =>
    s.onElement element fun e r =>
      (if takeCapture.getLsbD 0 then s.modPoints e PointsBody.emptied else s).done (elementAnswer e r))

end Sys2Proof.Machine
end

