-- ==== Sys2Proof/Machine/FieldCommands.lean ====
section
/-! DEFINITION. The field link: status telegrams (R24 to R28, R40 to R43), discarded telegrams (R23), demand telegrams
(R32), and the expiries of the field timers (R30, R33, R37, R40, R41). -/

namespace Sys2Proof.Machine

/-- A map entry matches an address (R26). -/
def MapEntry.qualifies (m : MapEntry) (a : Word) : Bool :=
  a &&& m.mask == m.matchValue &&& m.mask && decide ((a &&& ~~~m.mask).toNat < windowInEffect m.window)

/-- The element id an address selects (R26): none where no entry qualifies; it may exceed 511. -/
def selectElement (map : List MapEntry) (a : Word) : Option Nat :=
  (map.find? fun m => m.qualifies a).map fun m => m.base.toNat + (a &&& ~~~m.mask).toNat

def State.countUnmapped (s : State) : State := { s with fi := { s.fi with unmapped := saturating s.fi.unmapped } }
def State.countBadCheck (s : State) : State := { s with fi := { s.fi with badCheck := saturating s.fi.badCheck } }
def State.countMismatch (s : State) (e : Nat) : State :=
  { s with fi := { s.fi with kindMismatch := saturating s.fi.kindMismatch } }.latchFault e .kindMismatchSeen

/-- A valid SECTION_STATUS (R28, R43). -/
def State.sectionStatus (s : State) (e : Nat) (value : Byte) : State :=
  (s.modSection e fun b => { b with supervision := some (supervisionTime b.timeout) }).writeOccupancy e
    (occupancyOf value)

/-- A valid POINTS_STATUS (R28). -/
def State.pointsStatus (s : State) (e : Nat) (value : Byte) : State :=
  (s.modPoints e fun b => { b with supervision := some (supervisionTime b.timeout) }).writeDetection e
    (detectionOf value)

/-- WRONG_ASPECT latched and STOP written (R41). -/
def State.wrongAspect (s : State) (e : Nat) : State := (s.latchFault e .wrongAspect).writeSignalDemand e .stop

/-- A signal proven: the proving timer stops, the proven flag is set and handed to RSV (R40). -/
def State.proveSignal (s : State) (e : Nat) : State :=
  let s1 := s.modSignal e fun b => { b with proving := none, proven := true }
  forEach s1.slots (State.proofMade e) s1

/-- A valid SIGNAL_STATUS: the aspect is written and its events are handed on, then FI's rules apply to it (R28): proof
where the proving timer ran at the receipt (R40), wrong aspect (R41), DARK (R42). -/
def State.signalStatus (s : State) (e : Nat) (b : SignalBody) (value : Byte) : State :=
  let new := shownOf value
  let s1 := (s.modSignal e fun b => { b with supervision := some (supervisionTime b.timeout) }).writeShown e new
  match new with
  | .proceed =>
    let s2 := if b.proving.isSome then s1.proveSignal e else s1
    if b.demanded = .stop ∧ b.returnWindow = none then s2.wrongAspect e else s2
  | .dark => s1.latchFault e .dark
  | _ => s1

/-- Cases 5 and 6 of R24, and a valid status (R27, R28). -/
def State.statusFor (s : State) (kind value : Byte) (e : Nat) (r : Element) : State :=
  match r.body, kind.toNat with
  | .none, _ => s.countUnmapped
  | .sect _, 0x11 => s.sectionStatus e value
  | .points _, 0x12 => s.pointsStatus e value
  | .signal b, 0x13 => s.signalStatus e b value
  | _, _ => s.countMismatch e

/-- A complete telegram examined by the table of R24. -/
def State.statusTelegram (s : State) (kind : Byte) (address : Word) (value check : Byte) : State :=
  if check ≠ fieldCheck kind address value then s.countBadCheck
  else if kind ≠ 0x11 ∧ kind ≠ 0x12 ∧ kind ≠ 0x13 then s.countBadCheck
  else match selectElement s.fi.map address with
    | none => s.countUnmapped
    | some e =>
      if 511 < e then s.countUnmapped
      else match s.element e with
        | none => s.countUnmapped
        | some r => s.statusFor kind value e r

/-- Whether FI examines what it receives (R23). -/
def State.fieldLive (s : State) : Bool := s.mode == .operating || s.mode == .halted

/-- FIELD_STATUS_TELEGRAM: five bytes received (R23, R24); discarded uncounted in CONFIGURATION and STARTING. -/
def execFieldStatusTelegram (kind : Byte) (address : Word) (value check : Byte) (s : State) :
    Host.Outcome State Fault Refusal :=
  .next (if s.fieldLive then (s.statusTelegram kind address value check).settle else s)

/-- A framing error discards the partial telegram and counts BAD_CHECK (R23, R44, log 26). -/
def execFieldFramingError (s : State) : Host.Outcome State Fault Refusal :=
  .next (if s.fieldLive then s.countBadCheck else s)

/-- A gap inside a telegram discards it and counts BAD_CHECK (R23, R44, log 26). -/
def execFieldCharacterGap (s : State) : Host.Outcome State Fault Refusal :=
  .next (if s.fieldLive then s.countBadCheck else s)

/-- The entry sent next: the first after the element last sent, wrapping from 511 to 0 (R32). -/
def nextDemand (demands : Table PendingDemand) (lastSent : Nat) : Option (Nat × PendingDemand) :=
  (demands.find? fun p => decide (lastSent < p.1)).or demands.head?

/-- Kind and value of a demand telegram (R32, R194): the element's demand as it stands; a signal whose record has been
discarded is demanded STOP (R34). -/
def State.demandValue (s : State) (e : Nat) : DemandKind → Byte × Byte
  | .points => (0x22, (((s.pointsAt e).bind (·.demanded)).map Position.code).getD 0)
  | .signal => (0x23, ((s.signalAt e).map fun b => b.demanded.code).getD 0)

/-- The refresh timer restarted for an element whose demand is not NONE (R33). -/
def Body.refreshed : Body → Body
  | .points b => .points { b with refresh := if b.demanded.isSome then some 10 else b.refresh }
  | .signal b => .signal { b with refresh := some 10 }
  | b => b

/-- The transmitter is idle: the next demand telegram is built and sent (R32). -/
def execDemandTelegramBuild (s : State) : Host.Outcome State Fault Refusal :=
  .next (match nextDemand s.fi.demands s.fi.lastSent with
    | some (e, p) =>
      let v := s.demandValue e p.kind
      let telegram := [v.1] ++ Word.bytes p.address ++ [v.2, fieldCheck v.1 p.address v.2]
      { s with fi := { s.fi with demands := s.fi.demands.remove e, lastSent := e, out := s.fi.out ++ [telegram] } }.modElement
        e fun r => { r with body := r.body.refreshed }
    | none => s)

/-- Whether an element's supervision timer is due. -/
def Body.supervisionDue : Body → Bool
  | .sect b => due b.supervision
  | .points b => due b.supervision
  | .signal b => due b.supervision
  | _ => false

/-- UNKNOWN written into the kind state by a supervision expiry, the timer stopped (R29, R30). -/
def State.supervisionLost (s : State) (e : Nat) (r : Element) : State :=
  let s1 := s.latchFault e .supervisionLost
  match r.body with
  | .sect _ => (s1.modSection e fun b => { b with supervision := none }).writeOccupancy e .unknown
  | .points _ => (s1.modPoints e fun b => { b with supervision := none }).writeDetection e .unknown
  | .signal _ => (s1.modSignal e fun b => { b with supervision := none }).writeShown e .unknown
  | _ => s1

def execSupervisionTimerExpiry (element : Nat) (s : State) : Host.Outcome State Fault Refusal :=
  .next (match s.element element with
    | some r => if r.body.supervisionDue then (s.supervisionLost element r).settle else s
    | none => s)

/-- THROW_FAILED of points reaches a record in SETTING or HANDOVER_WAIT that holds them (R60). -/
def State.throwFailsRecord (e slot : Nat) (s : State) : State :=
  match s.routeRecord slot with
  | some r =>
    if (r.state = .setting ∨ r.state = .handoverWait) ∧ (r.definition.required e).isSome then
      s.failRecord slot .throwFailed e
    else s
  | none => s

/-- The throw timer of moving points expires (R37); the records first, then FU (log 28). -/
def State.throwExpired (s : State) (e : Nat) : State :=
  let s1 := ((s.latchFault e .throwFailed).modPoints e fun b => { b with moving := false, throwTimer := none }).movingCleared e
  (forEach s1.slots (State.throwFailsRecord e) s1).claimThrowFailed e

def execThrowTimerExpiry (element : Nat) (s : State) : Host.Outcome State Fault Refusal :=
  .next (match s.pointsAt element with
    | some b => if b.moving ∧ due b.throwTimer then (s.throwExpired element).settle else s
    | none => s)

/-- The proving timer expires without proof (R40). -/
def State.provingExpired (s : State) (e : Nat) : State :=
  let s1 := (s.modSignal e fun b => { b with proving := none }).latchFault e .notProven
  forEach s1.slots (State.notProvenEvent e) s1

def execProvingTimerExpiry (element : Nat) (s : State) : Host.Outcome State Fault Refusal :=
  .next (match s.signalAt element with
    | some b => if due b.proving then (s.provingExpired element).settle else s
    | none => s)

/-- The return window expires: a PROCEED still shown is a wrong aspect (R41). -/
def execReturnWindowExpiry (element : Nat) (s : State) : Host.Outcome State Fault Refusal :=
  .next (match s.signalAt element with
    | some b =>
      if due b.returnWindow then
        let s1 := s.modSignal element fun b => { b with returnWindow := none }
        if b.shown = .proceed then s1.wrongAspect element else s1
      else s
    | none => s)

/-- The refresh timer of a body, and the body with it stopped (R33). -/
def Body.refreshTimer : Body → Timer
  | .points b => b.refresh
  | .signal b => b.refresh
  | _ => Option.none
def Body.refreshStopped : Body → Body
  | .points b => .points { b with refresh := Option.none }
  | .signal b => .signal { b with refresh := Option.none }
  | b => b

/-- The refresh timer expires: the element joins the pending demand set (R33). -/
def execRefreshTimerExpiry (element : Nat) (s : State) : Host.Outcome State Fault Refusal :=
  .next (match s.element element with
    | some r =>
      if due r.body.refreshTimer then
        (s.modElement element fun r => { r with body := r.body.refreshStopped }).joinDemand element
      else s
    | none => s)

end Sys2Proof.Machine
end

