-- ==== Sys2Proof/Machine/BoundaryLine.lean ====
section
/-! DEFINITION. What BU does with the telegrams of a line and its deadlines: direction (R150 to R152), the outgoing
offer (R153), the incoming offer (R156 to R159), the line image (R161) and the line reset (R165). -/

namespace Sys2Proof.Machine

/-- Whether a route record exists whose exit is the line's boundary element (R151, R165). -/
def State.routeOnLine (s : State) (r : Line) : Bool :=
  match r.boundary with
  | some e => s.rsv.any fun p => p.2.definition.exit == e
  | none => false

/-- The first yield condition that fails (R151). -/
def State.yieldFailure (s : State) (r : Line) : Option Reason :=
  if r.outOffer.isSome then some .offerLive
  else if s.routeOnLine r then some .routeSet
  else if r.transit then some .transit
  else if s.occupancy r.border ≠ .clear then some .borderNotClear
  else if (r.boundary.map s.remoteImage).getD .unknown ≠ .clear then some .remoteNotClear
  else none

/-- A DIR_ASK answered with no ask of our own (R151). -/
def State.answerDirection (s : State) (l : Nat) : State :=
  match s.line l with
  | some r =>
    match (if r.token = .rest .outward then s.yieldFailure r else none) with
    | some reason => s.hand l (.dirRefuse reason.code)
    | none => ((s.setToken l (.rest .inward)).modLine l fun r => { r with conflict := false }).hand l .dirYield
  | none => s

/-- Whether this end wins a crossing ask (R152); equal words are a free value (log 14). -/
def winsAsk (own received : Word) : Bool :=
  if own = received then Config.equalWordsWin own else decide (own.toNat < received.toNat)

/-- DIR_ASK received (R147, R151, R152). -/
def State.dirAsked (word : Word) (l : Nat) (s : State) : State :=
  match s.line l with
  | some r =>
    if r.withdrawn then s.hand l (.dirRefuse Reason.lineWithdrawn.code)
    else
      match r.token, r.ask with
      | .asking _, some a =>
        if winsAsk a.word word then s
        else ((s.endAsk l).failHandover a.slot .directionLost).answerDirection l
      | _, _ => s.answerDirection l
  | none => s

/-- DIR_YIELD received (R150). -/
def State.dirYielded (l : Nat) (s : State) : State :=
  match s.line l with
  | some r =>
    match r.token, r.ask with
    | .asking _, some a =>
      let s1 := (s.modLine l fun r => { r with ask := none, conflict := false }).setToken l (.rest .outward)
      (s1.makeOffer l a.slot).modRecord a.slot fun t =>
        { t with handover := t.handover.map fun h => { h with status := .offered, offer := some r.nextOffer } }
    | _, _ => s
  | none => s

/-- The ask ended without a yield: token back, route failed with DIRECTION (R150). -/
def State.askFailed (l : Nat) (s : State) : State :=
  match s.line l with
  | some r =>
    match r.token, r.ask with
    | .asking _, some a => (s.endAsk l).failHandover a.slot .direction
    | _, _ => s
  | none => s

/-- DIR_REFUSE received (R150). -/
def State.dirRefused (reason : Byte) (l : Nat) (s : State) : State :=
  match s.line l with
  | some r =>
    match r.token, r.ask with
    | .asking _, some _ => (s.modLine l fun r => { r with lastReason := reason }).askFailed l
    | _, _ => s
  | none => s

/-- The outgoing offer when it is OFFERED with a number. -/
def Line.offeredAs (r : Line) (n : Byte) : Option OutOffer :=
  r.outOffer.filter fun o => o.state == .offered && o.number == n

/-- The acceptance delivered to RSV: the status ACCEPTED, the record on to SETTING and, where R59 holds, LOCKED
(R58, R153). -/
def State.deliverAcceptance (s : State) (slot : Nat) : State :=
  let onward (r : RouteRecord) : RecordState := if r.state = .handoverWait then .setting else r.state
  (s.modRecord slot fun r =>
    { r with handover := r.handover.map fun h => { h with status := .accepted }, state := onward r }).review slot

/-- ACCEPT received (R153). -/
def State.offerAccepted (n : Byte) (l : Nat) (s : State) : State :=
  match s.line l with
  | some r =>
    match r.offeredAs n with
    | some o =>
      let s1 := s.modLine l fun r =>
        { r with outOffer := some { o with state := .accepted, deadline := none }, transit := true }
      match o.slot with
      | some slot => s1.deliverAcceptance slot
      | none => s1
    | none =>
      if r.outOffer.any fun o => o.state == .accepted && o.number == n then s else s.hand l (.withdraw n)
  | none => s

/-- The outgoing offer removed and its route failed (R153). -/
def State.offerFailed (s : State) (l : Nat) (o : OutOffer) (reason : Reason) : State :=
  let s1 := s.modLine l fun r => { r with outOffer := none }
  match o.slot with
  | some slot => s1.failHandover slot reason
  | none => s1

/-- DECLINE received (R153). -/
def State.offerDeclined (n reason : Byte) (l : Nat) (s : State) : State :=
  match s.line l with
  | some r =>
    match r.offeredAs n with
    | some o => (s.modLine l fun r => { r with lastReason := reason }).offerFailed l o .declined
    | none => s
  | none => s

/-- The offer deadline expires (R153). -/
def State.offerTimeout (s : State) (l : Nat) (o : OutOffer) : State :=
  (s.hand l (.withdraw o.number)).offerFailed l o .handoverTimeout

/-! The incoming offer. -/

/-- The first of cases 4 and 6 to 10 of R156 that applies. -/
def State.acceptanceFailure (s : State) (r : Line) : Option Reason :=
  if r.token ≠ .rest .inward then some .notIn
  else if (s.element r.border).any fun e => e.withdrawn || e.blocked then some .borderOutOfService
  else if (s.lockOf r.border).isSome then some .borderLocked
  else if (s.claimOn r.border).any fun c => c.2.demand == .sectionClear then some .borderClaimed
  else if s.occupancy r.border ≠ .clear then some .borderNotClear
  else if s.isWithdrawn r.entrySignal || s.shown r.entrySignal == .unknown then some .entrySignal
  else none

/-- An offer accepted: entry reservation, offer ACCEPTED, transit, ACCEPT (R157). -/
def State.acceptOffer (s : State) (l : Nat) (n : Byte) : State :=
  match s.line l with
  | some r =>
    ((s.writeLock r.border (.entry l)).modLine l fun r =>
      { r with inOffer := some { number := n, accepted := true, passed := false, deadline := none },
               transit := true }).hand l (.accept n)
  | none => s

/-- An offer that reached case 11 (R157). -/
def State.applyPolicy (s : State) (l : Nat) (r : Line) (n : Byte) : State :=
  match r.policy with
  | .autoAccept => s.acceptOffer l n
  | .askHost =>
    (s.modLine l fun r =>
      { r with inOffer := some { number := n, accepted := false, passed := false, deadline := some 100 } }).latch
        .offerPending
  | .autoDecline => s.hand l (.decline n Reason.policy.code)

/-- OFFER received, judged by the cases of R156 in order. -/
def State.offerReceived (n : Byte) (l : Nat) (s : State) : State :=
  match s.line l with
  | some r =>
    let decline (reason : Reason) := s.hand l (.decline n reason.code)
    if r.withdrawn then decline .lineWithdrawn
    else if r.inOffer.any fun o => o.number == n then
      if r.inOffer.any (·.accepted) then s.hand l (.accept n) else s
    else if s.mode = .halted then decline .halted
    else if r.token ≠ .rest .inward then decline .notIn
    else if r.inOffer.isSome then decline .offerLive
    else match s.acceptanceFailure r with
      | some reason => decline reason
      | none => s.applyPolicy l r n
  | none => s

/-- WITHDRAW received (R159). -/
def State.offerWithdrawn (n : Byte) (l : Nat) (s : State) : State :=
  match (s.line l).bind (·.inOffer) with
  | some o =>
    if o.number ≠ n then s
    else if o.accepted then s.endReservation l
    else s.modLine l fun r => { r with inOffer := none }
  | none => s

/-- PASSED received (R159). -/
def State.passedEvent (n : Byte) (l : Nat) (s : State) : State :=
  match s.line l with
  | some r =>
    match r.inOffer with
    | some o =>
      if o.number = n ∧ o.accepted then
        if s.occupancy r.border = .occupied then s.endReservation l
        else s.modLine l fun r => { r with inOffer := some { o with passed := true } }
      else s
    | none => s
  | none => s

/-! The line image. -/

/-- One item value of a LINE_IMAGE: written, swept, or neither (R161). -/
def State.itemReceived (l e : Nat) (x : Byte × Nat) (s : State) : State :=
  match (s.item l x.2).state with
  | .asked | .granted | .stale =>
    s.modBoundary e fun b => { b with items := b.items.set x.2 (itemImageOf x.1) }
  | .idle => s.sweepItem l x.2 (itemImageOf x.1)
  | .freeOwed => s

/-- The token view written and the two tokens compared (R161). -/
def State.viewReceived (s : State) (l : Nat) (view : TokenView) : State :=
  match s.line l with
  | some r =>
    let conflict := r.token == .rest .outward && view == .outward
    State.latchIf (conflict && !r.conflict) .lineChange
      (s.modLine l fun r => { r with view := view, conflict := conflict })
  | none => s

/-- LINE_IMAGE received (R147, R161): every write of the telegram first, then one review of the records, which is the
model's choice (log 7). The item values are taken, and so the FLANK_FREEs of several swept items handed, in ascending item
index, which is the model's choice (log 36). -/
def State.imageReceived (occupancy token : Byte) (items : List Byte) (l : Nat) (s : State) : State :=
  match s.line l with
  | some r =>
    if r.withdrawn then s
    else match r.boundary with
      | some e =>
        let s1 := s.modBoundary e fun b => { b with image := occupancyOf occupancy }
        let s2 := forEach (items.take 8).zipIdx (State.itemReceived l e) s1
        (s2.viewReceived l (viewOf token)).reviewAll
      | none => s.viewReceived l (viewOf token)
  | none => s

/-- The line reset expires (R165); its releases and retirements are one retry trigger. -/
def State.lineResetDone (s : State) (l : Nat) : State :=
  match s.line l with
  | some r =>
    let s1 := s.freeNeighbour l
    let held := s1.lockOf r.border == some (.entry l)
    let s2 := (s1.releaseLock r.border (.entry l)).modLine l fun r =>
      { r with inOffer := none, outOffer := none, transit := false, ask := none, resetTimer := none }
    let s3 := s2.setToken l (.rest .unset)
    State.handChangedItems s (State.triggerIf (held || retiredBetween s s1) s3)
  | none => s

end Sys2Proof.Machine
end

