-- ==== Sys2Proof/Machine/LinkPort.lean ====
section
/-! DEFINITION. The link ports: characters sent and read (R127, R129), the link states (R132 to R137), a link that
is up (R138 to R142), drops (R143), and the telegrams handed to the lines (R140). -/

namespace Sys2Proof.Machine

/-! Characters. -/

def charSync : BitVec 9 := 0x13C
def charOpen : BitVec 9 := 0x15B
def charClose : BitVec 9 := 0x15D
def charFill : BitVec 9 := 0x100
/-- A data character (R129). -/
def dataChar (b : Byte) : BitVec 9 := b.setWidth 9

/-- A received character as the slot reads it. -/
inductive RxChar where
  | data (b : Byte)
  | sync | openChar | close | fill
  | violation
  deriving DecidableEq, Repr

/-- Reading a character, after the slot's inversion (R127, R129). -/
def LinkSlot.read (k : LinkSlot) : LinkChar → RxChar
  | .undecodable => .violation
  | .bits c =>
    let v := if k.inverted then ~~~c else c
    if v.getLsbD 8 then
      if v = charSync then .sync else if v = charOpen then .openChar
      else if v = charClose then .close else if v = charFill then .fill else .violation
    else .data (v.setWidth 8)

/-- A character as the slot's port sends it, after the slot's inversion (R127). -/
def LinkSlot.onWire (k : LinkSlot) (c : BitVec 9) : LinkChar := .bits (if k.inverted then ~~~c else c)

/-- Characters put on the port (R127). -/
def LinkSlot.put (k : LinkSlot) (cs : List (BitVec 9)) : LinkSlot := { k with out := k.out ++ cs.map k.onWire }

/-- The character that a slot sends without pause while it sends nothing else (R129, R132 to R134): none in OFF and
HOLDOFF or without a port, SYNC in HUNT, FILL in IDENT and UP. It is an output of the state and is not put on the list
`out` (log 17). -/
def LinkSlot.idleChar (k : LinkSlot) : Option LinkChar :=
  if k.port.isNone then none
  else match k.link with
    | .off | .holdoff => none
    | .hunt => some (k.onWire charSync)
    | .ident | .up => some (k.onWire charFill)

/-- A telegram's characters: OPEN, header, payload and check, CLOSE (R129, R130). -/
def telegramChars (kind sequence index : Byte) (payload : List Byte) : List (BitVec 9) :=
  let bytes := [kind, sequence, index, BitVec.ofNat 8 payload.length] ++ payload
  charOpen :: ((bytes ++ Word.bytes (crc16 bytes)).map dataChar ++ [charClose])

/-- An IDENT of this area's id with its answer flag (R134); it carries sequence number 0 (R131). -/
def LinkSlot.sendIdentAs (k : LinkSlot) (areaId : Word) (answer : Bool) : LinkSlot :=
  k.put (telegramChars 0x01 0 0 (Word.bytes areaId ++ Word.bytes k.expected ++
    [1, BitVec.ofNat 8 k.lines.length, flagByte k.restartPending ||| (if answer then 2 else 0)]))

/-- An IDENT sent in IDENT; the send interval starts (R134, R145). -/
def LinkSlot.sendIdent (k : LinkSlot) (areaId : Word) : LinkSlot :=
  { k.sendIdentAs areaId k.answerMark with sendInterval := some 10 }

/-! Link states. -/

/-- Every timer of the slot stopped and its transmit list empty (R132, R143); a keep-alive still due goes with it, which
is the model's choice (log 39). -/
def LinkSlot.quiet (k : LinkSlot) : LinkSlot :=
  { k with holdoff := none, identTimer := none, sendInterval := none, silence := none, image := none,
           transmit := [], keepAlive := false }

/-- Entry to HOLDOFF (R132). -/
def LinkSlot.enterHoldoff (k : LinkSlot) : LinkSlot := { k.quiet with link := .holdoff, holdoff := some 20 }

/-- Entry to HUNT (R133). -/
def LinkSlot.enterHunt (k : LinkSlot) : LinkSlot := { k.quiet with link := .hunt, sync := 0 }

/-- Entry to IDENT (R134): answer mark clear, 8 SYNC, the first IDENT. -/
def LinkSlot.enterIdent (k : LinkSlot) (areaId : Word) : LinkSlot :=
  ({ k.quiet with link := .ident, answerMark := false, identTimer := some 50 }.put
    (List.replicate 8 charSync)).sendIdent areaId

/-- The slot a port is mapped to (R127). -/
def State.slotOfPort (s : State) (port : Nat) : Option Nat :=
  (s.lk.find? fun p => p.2.port == some port).map (·.1)

/-- A drop (R143): the slot leaves UP and BU has a link down event for each of its lines. -/
def State.dropLink (s : State) (n : Nat) (reason : Reason) : State :=
  match s.slot n with
  | some k =>
    let s1 := s.modSlot n fun k =>
      { (if reason = .disabled then { k.quiet with link := .off } else k.enterHoldoff) with
        level := 0, goodRun := 0, lastDrop := some reason, drops := saturating k.drops,
        peerRestart := k.peerRestart || reason == .peerRestart }
    forEach k.lines State.lineDown (s1.latch .lineChange)
  | none => s

/-- An error counted (R141); in UP it raises the level and may drop the link. -/
def State.linkError (s : State) (n : Nat) (kind : Reason) : State :=
  match s.slot n with
  | some k =>
    let s1 := s.modSlot n fun k => { k with errors := saturating k.errors, lastError := some kind }
    if k.link = .up then
      let level := min 15 (k.level + 1)
      let s2 := s1.modSlot n fun k => { k with level := level, goodRun := 0 }
      if thresholdInEffect k.threshold ≤ level then s2.dropLink n .errors else s2
    else s1
  | none => s

/-- Entry to UP (R136): the link up events of the lines, a retry trigger, and an image for every line. -/
def State.enterUp (s : State) (n : Nat) : State :=
  match s.slot n with
  | some k =>
    let s1 := s.modSlot n fun k =>
      { k.quiet with link := .up, mismatch := none, restartPending := false, peerRestart := false, txSequence := 0,
                     rxSequence := none, level := 0, goodRun := 0, silence := some 6, image := some 2 }
    let s2 := forEach k.lines (State.lineUpEvent k.peerRestart) (s1.latch .lineChange)
    (forEach k.lines (fun l s => s.hand l .lineImage) s2).trigger
  | none => s

/-! Received telegrams. -/

/-- A good telegram counted (R141). -/
def LinkSlot.good (k : LinkSlot) : LinkSlot :=
  if k.goodRun + 1 = 64 then { k with level := k.level - 1, goodRun := 0 } else { k with goodRun := k.goodRun + 1 }

/-- A telegram with a valid check, of a kind other than IDENT, on a slot in UP: the silence timer restarts (R142);
the line index (R138 case 9) and the sequence (R139) decide; an accepted one is handed to its line (R140). A
telegram accepted with a SEQUENCE error is handed on before the error is counted (log 18). -/
def State.judgeInUp (s : State) (n : Nat) (k : LinkSlot) (sequence index : Byte) (deliver : Nat → State → State) :
    State :=
  let s1 := s.modSlot n fun k => { k with silence := some 6 }
  let noted := s1.modSlot n fun k => { k with rxSequence := some sequence }
  match k.lines[index.toNat]? with
  | none => noted.linkError n .unexpected
  | some l =>
    match k.rxSequence with
    | none => deliver l (noted.modSlot n LinkSlot.good)
    | some last =>
      if sequence = last + 1 then deliver l (noted.modSlot n LinkSlot.good)
      else if sequence = last then s1.linkError n .sequence
      else (deliver l noted).linkError n .sequence

/-- A telegram other than IDENT received on a port with a valid check and the length of its kind: judged in UP,
discarded in IDENT (R134); in HUNT its characters set the SYNC count to 0 (R133, log 20). -/
def State.receive (s : State) (port : Nat) (sequence index : Byte) (deliver : Nat → State → State) : State :=
  match s.slotOfPort port with
  | some n =>
    match s.slot n with
    | some k =>
      match k.link with
      | .up => s.judgeInUp n k sequence index deliver
      | .hunt => s.modSlot n fun k => { k with sync := 0 }
      | _ => s
    | none => s
  | none => s

/-- The first identity test that fails (R135). -/
def State.identMismatch (s : State) (k : LinkSlot) (sender addressee : Word) (level lineCount : Byte) :
    Option Reason :=
  if sender ≠ k.expected then some .wrongPeer
  else if addressee ≠ s.areaId then some .wrongAddressee
  else if level ≠ 1 then some .level
  else if lineCount.toNat ≠ k.lines.length then some .lineCount
  else none

/-- An IDENT in IDENT that matches (R135). -/
def State.identMatched (s : State) (n : Nat) (restart answer : Bool) : State :=
  let s1 := s.modSlot n fun k =>
    let k1 := { k with peerRestart := k.peerRestart || restart }
    if k.answerMark then k1 else { k1 with answerMark := true }.sendIdent s.areaId
  if answer then s1.enterUp n else s1

/-- IDENT received (R135; in UP, R138 cases 7 and 8). -/
def State.identArrived (s : State) (port : Nat) (sender addressee : Word) (level lineCount flags : Byte) : State :=
  match s.slotOfPort port with
  | some n =>
    match s.slot n with
    | some k =>
      match k.link with
      | .up =>
        let s1 := s.modSlot n fun k => { k with silence := some 6 }
        if flags.getLsbD 1 then s1 else s1.dropLink n .peerRestart
      | .ident =>
        match s.identMismatch k sender addressee level lineCount with
        | some reason => (s.modSlot n fun k => { k with mismatch := some reason }).latch .lineChange
        | none => s.identMatched n (flags.getLsbD 0) (flags.getLsbD 1)
      | .hunt => s.modSlot n fun k => { k with sync := 0 }
      | _ => s
    | none => s
  | none => s

/-- The payload of a telegram whose kind and length agree (R130, R194), handed on by its kind. -/
def State.receivePayload (s : State) (port : Nat) (kind sequence index : Byte) (payload : List Byte) : State :=
  let b (i : Nat) : Byte := payload.getD i 0
  match kind.toNat with
  | 0x01 => s.identArrived port (wordOf (b 0) (b 1)) (wordOf (b 2) (b 3)) (b 4) (b 5) (b 6)
  | 0x02 => s.receive port sequence index (State.imageReceived (b 0) (b 1) (payload.drop 2))
  | 0x03 => s.receive port sequence index (State.dirAsked (wordOf (b 0) (b 1)))
  | 0x04 => s.receive port sequence index State.dirYielded
  | 0x05 => s.receive port sequence index (State.dirRefused (b 0))
  | 0x06 => s.receive port sequence index (State.offerReceived (b 0))
  | 0x07 => s.receive port sequence index (State.offerAccepted (b 0))
  | 0x08 => s.receive port sequence index (State.offerDeclined (b 0) (b 1))
  | 0x09 => s.receive port sequence index (State.offerWithdrawn (b 0))
  | 0x0A => s.receive port sequence index (State.passedEvent (b 0))
  | 0x0B => s.receive port sequence index fun l s => s.flankAsked l (b 0) (b 1)
  | 0x0C => s.receive port sequence index fun l s => s.grantReceived l (b 0).toNat (b 1) (b 2 == 1)
  | 0x0D => s.receive port sequence index fun l s => s.denyReceived l (b 0).toNat (b 1) (b 2)
  | 0x0E => s.receive port sequence index fun l s => s.flankFreed l (b 0) (b 1) (b 2 == 1)
  | _ => s

/-- A telegram with a valid check discarded under R138 case 5 or 6: in UP it restarts the silence timer and writes
its sequence number. -/
def State.discardChecked (s : State) (n : Nat) (sequence : Byte) (kind : Reason) : State :=
  (s.modSlot n fun k =>
    if k.link = .up then { k with silence := some 6, rxSequence := some sequence } else k).linkError n kind

/-- The data characters between OPEN and CLOSE, judged by cases 3 to 10 of R138. -/
def State.judgeBytes (s : State) (port n : Nat) (bytes : List Byte) : State :=
  match bytes with
  | kind :: sequence :: index :: len :: rest =>
    if 16 < bytes.length ∨ rest.length ≠ len.toNat + 2 then s.linkError n .length
    else if rest.drop len.toNat ≠ Word.bytes (crc16 (kind :: sequence :: index :: len :: rest.take len.toNat)) then
      s.linkError n .check
    else match payloadLength kind with
      | none => s.discardChecked n sequence .unexpected
      | some m =>
        if m ≠ len.toNat then s.discardChecked n sequence .length
        else s.receivePayload port kind sequence index (rest.take len.toNat)
  | _ => s.linkError n .length

/-- A character received in HUNT (R133). -/
def State.huntChar (n : Nat) (c : LinkChar) (s : State) : State :=
  match s.slot n with
  | some k =>
    if k.link ≠ .hunt then s
    else if k.read c = .sync then
      if k.sync + 1 = 4 then s.modSlot n fun k => { k with sync := 4 }.enterIdent s.areaId
      else s.modSlot n fun k => { k with sync := k.sync + 1 }
    else s.modSlot n fun k => { k with sync := 0 }
  | none => s

/-- Where a receiver that examines telegrams stands: between two telegrams, waiting for OPEN after a discard, or within
a telegram with the data characters since OPEN (R138, log 20). -/
inductive Assembly where
  | between
  | waiting
  | within (bytes : List Byte)
  deriving DecidableEq, Repr

/-- One character of R138, in IDENT and UP. Between telegrams a character other than FILL, SYNC and OPEN is a CODE error
in UP. -/
def State.readChar (s : State) (port n : Nat) (up : Bool) (a : Assembly) (c : RxChar) : State × Assembly :=
  match a, c with
  | .within bs, .data b => (s, .within (bs ++ [b]))
  | .within bs, .close => (s.judgeBytes port n bs, .between)
  | .within _, .openChar => (s.linkError n .unexpected, .within [])
  | .within _, .violation => (s.linkError n .codeError, .waiting)
  | .within _, _ => (s.linkError n .unexpected, .waiting)
  | _, .openChar => (s, .within [])
  | .waiting, _ => (s, .waiting)
  | .between, .sync => (s, .between)
  | .between, .fill => (s, .between)
  | .between, _ => (if up then s.linkError n .codeError else s, .between)

/-- Characters received on a slot's port, each read as the state that the slot is then in has it: they count toward SYNC
in HUNT (R133), make up telegrams in IDENT and UP (R134, R138), and are not examined in OFF and HOLDOFF (R132). -/
def State.readChars (port n : Nat) : List LinkChar → Assembly → State → State
  | [], _, s => s
  | c :: r, a, s =>
    match s.slot n with
    | none => s
    | some k =>
      match k.link with
      | .off | .holdoff => s
      | .hunt => State.readChars port n r .between (s.huntChar n c)
      | .ident | .up =>
        let x := s.readChar port n (k.link == .up) a (k.read c)
        State.readChars port n r x.2 x.1

/-! The transmitter (R131). -/

/-- The payload of a LINE_IMAGE as it stands (R160). -/
def State.imageBytes (s : State) (l : Nat) : List Byte :=
  match s.line l with
  | some r => (s.borderReport r).code :: r.token.code :: (s.itemValues l).map ItemImage.code
  | none => []

/-- The oldest telegram of the list built and sent (R131). -/
def State.sendOldest (s : State) (n : Nat) (k : LinkSlot) : State :=
  match k.transmit with
  | [] => s
  | t :: rest =>
    let payload := if t.payload = .lineImage then s.imageBytes t.line else t.payload.bytes
    let index := ((s.line t.line).map (·.index)).getD 0
    s.modSlot n fun k =>
      { k.put (telegramChars t.payload.kind k.txSequence (BitVec.ofNat 8 index) payload) with
        transmit := rest, txSequence := k.txSequence + 1 }

end Sys2Proof.Machine
end

