-- ==== Sys2Proof/Machine/LineCommands.lean ====
section
/-! DEFINITION. The requests on lines (R158, R164 to R166), the telegrams of the lines as the links hand them on
(R140), the flank telegrams (R80, R87, R89) and the expiries of the boundary and flank timers. -/

namespace Sys2Proof.Machine

/-- The rule of a request that names a line: NOT_DEFINED above 15 or where the line is not defined. -/
def State.onLine (s : State) (line : Byte) (rule : Nat → Line → State) : State :=
  match s.line line.toNat with
  | some r => if line.toNat < Config.lines then rule line.toNat r else s.refuse .notDefined
  | none => s.refuse .notDefined

/-- SET_LINE_POLICY (R164). -/
def execSetLinePolicy (line policy : Byte) (s : State) : Host.Outcome State Fault Refusal :=
  .next (s.request [.operating] fun s =>
    s.onLine line fun l _ =>
      match policyOf policy with
      | some p => (s.modLine l fun r => { r with policy := p }).done
      | none => s.refuse .notDefined)

/-- ANSWER_OFFER in OPERATING: cases 3 to 6 of R158. -/
def State.answerOffer (s : State) (decision : Byte) (l : Nat) (r : Line) : State :=
  match decision.toNat, r.inOffer.filter fun o => !o.accepted with
  | 1, some o =>
    match (if r.withdrawn then some .lineWithdrawn else s.acceptanceFailure r) with
    | some reason => (s.declinePending l reason).done [1, reason.code]
    | none => (s.acceptOffer l o.number).done [0]
  | 2, some _ => (s.declinePending l .host).done [1, Reason.host.code]
  | 1, none => s.refuse .noOffer
  | 2, none => s.refuse .noOffer
  | _, _ => s.refuse .notDefined

def execAnswerOffer (line decision : Byte) (s : State) : Host.Outcome State Fault Refusal :=
  .next (s.request [.operating] fun s => s.onLine line (s.answerOffer decision))

/-- LINE_RESET in OPERATING: cases 3 to 6 of R165. -/
def State.lineReset (s : State) (l : Nat) (r : Line) : State :=
  if s.lineUp l then s.refuse .linkUp
  else if s.routeOnLine r then s.refuse .routeSet
  else if r.resetTimer.isSome then s.refuse .resetting
  else (s.modLine l fun r => { r with resetTimer := some 1200 }).done

def execLineReset (line : Byte) (s : State) : Host.Outcome State Fault Refusal :=
  .next (s.request [.operating] fun s => s.onLine line s.lineReset)

/-- QUERY_LINE (R166). -/
def execQueryLine (line : Byte) (s : State) : Host.Outcome State Fault Refusal :=
  .next (s.request servingModes fun s => s.onLine line fun l r => s.done (s.lineAnswer l r))

/-! Telegrams: each is judged by its slot (R138 to R140) and handed to its line. -/

def execLineImageReceived (port : Nat) (sequence index occupancy token : Byte) (items : List Byte) (s : State) :
    Host.Outcome State Fault Refusal :=
  .next (s.receive port sequence index (State.imageReceived occupancy token items)).settle

def execDirAskReceived (port : Nat) (sequence index : Byte) (word : Word) (s : State) :
    Host.Outcome State Fault Refusal :=
  .next (s.receive port sequence index (State.dirAsked word)).settle

def execDirYieldReceived (port : Nat) (sequence index : Byte) (s : State) : Host.Outcome State Fault Refusal :=
  .next (s.receive port sequence index State.dirYielded).settle

def execDirRefuseReceived (port : Nat) (sequence index reason : Byte) (s : State) :
    Host.Outcome State Fault Refusal :=
  .next (s.receive port sequence index (State.dirRefused reason)).settle

def execOfferReceived (port : Nat) (sequence index offer : Byte) (s : State) : Host.Outcome State Fault Refusal :=
  .next (s.receive port sequence index (State.offerReceived offer)).settle

def execAcceptReceived (port : Nat) (sequence index offer : Byte) (s : State) : Host.Outcome State Fault Refusal :=
  .next (s.receive port sequence index (State.offerAccepted offer)).settle

def execDeclineReceived (port : Nat) (sequence index offer reason : Byte) (s : State) :
    Host.Outcome State Fault Refusal :=
  .next (s.receive port sequence index (State.offerDeclined offer reason)).settle

def execWithdrawReceived (port : Nat) (sequence index offer : Byte) (s : State) : Host.Outcome State Fault Refusal :=
  .next (s.receive port sequence index (State.offerWithdrawn offer)).settle

def execPassedReceived (port : Nat) (sequence index offer : Byte) (s : State) : Host.Outcome State Fault Refusal :=
  .next (s.receive port sequence index (State.passedEvent offer)).settle

def execFlankAskReceived (port : Nat) (sequence index item ask : Byte) (s : State) :
    Host.Outcome State Fault Refusal :=
  .next (s.receive port sequence index fun l s => s.flankAsked l item ask).settle

/-- A satisfaction other than 01h is UNSATISFIED (R194). -/
def execFlankGrantReceived (port : Nat) (sequence index item ask satisfaction : Byte) (s : State) :
    Host.Outcome State Fault Refusal :=
  .next (s.receive port sequence index fun l s => s.grantReceived l item.toNat ask (satisfaction == 1)).settle

def execFlankDenyReceived (port : Nat) (sequence index item ask reason : Byte) (s : State) :
    Host.Outcome State Fault Refusal :=
  .next (s.receive port sequence index fun l s => s.denyReceived l item.toNat ask reason).settle

/-- A sweep mark other than 01h is clear (R194). -/
def execFlankFreeReceived (port : Nat) (sequence index item ask sweep : Byte) (s : State) :
    Host.Outcome State Fault Refusal :=
  .next (s.receive port sequence index fun l s => s.flankFreed l item ask (sweep == 1)).settle

/-! Timers. -/

/-- The ask deadline of a line expires (R150). -/
def execAskDeadlineExpiry (line : Nat) (s : State) : Host.Outcome State Fault Refusal :=
  .next (match (s.line line).bind (·.ask) with
    | some a => if due a.deadline then (s.askFailed line).settle else s
    | none => s)

/-- The offer deadline of a line expires (R153). -/
def execOfferDeadlineExpiry (line : Nat) (s : State) : Host.Outcome State Fault Refusal :=
  .next (match (s.line line).bind (·.outOffer) with
    | some o => if o.state = .offered ∧ due o.deadline then (s.offerTimeout line o).settle else s
    | none => s)

/-- The host deadline of a line expires (R158). -/
def execHostDeadlineExpiry (line : Nat) (s : State) : Host.Outcome State Fault Refusal :=
  .next (match (s.line line).bind (·.inOffer) with
    | some o => if ¬o.accepted ∧ due o.deadline then s.declinePending line .hostTimeout else s
    | none => s)

/-- The line reset of a line expires (R165). -/
def execLineResetExpiry (line : Nat) (s : State) : Host.Outcome State Fault Refusal :=
  .next (match s.line line with
    | some r => if due r.resetTimer then (s.lineResetDone line).settle else s
    | none => s)

/-- The ask timer of a remote item entry expires (R81). -/
def execAskTimerExpiry (line item : Nat) (s : State) : Host.Outcome State Fault Refusal :=
  .next (if item < Config.items ∧ (s.item line item).state = .asked ∧ due (s.item line item).askTimer then (s.askTimeout line item).settle
    else s)

/-- The sweep hold of a remote item entry expires (R90). -/
def execSweepHoldExpiry (line item : Nat) (s : State) : Host.Outcome State Fault Refusal :=
  .next (if item < Config.items ∧ due (s.item line item).sweepHold then s.setItem line item { s.item line item with sweepHold := none }
    else s)

end Sys2Proof.Machine
end

