-- ==== Sys2Proof/Machine/LinkCommands.lean ====
section
/-! DEFINITION. LINK_CONTROL (R128), the link timers (R132, R134, R140, R142), the characters and IDENT telegrams
received (R133, R135, R138) and the transmitter (R131). -/

namespace Sys2Proof.Machine

/-- LINK_CONTROL's case 3 (R128): a slot above N3, or a port code that names neither a port nor none. -/
def State.onSlot (s : State) (slot port : Byte) (rule : Nat → LinkSlot → State) : State :=
  match s.slot slot.toNat with
  | some k =>
    if slot.toNat < Config.linkSlots ∧ ((portOf port).isSome ∨ port = 0xFF) then rule slot.toNat k
    else s.refuse .notDefined
  | none => s.refuse .notDefined

/-- The answer with the slot record as it now is. -/
def State.doneSlot (s : State) (n : Nat) : State := s.done (((s.slot n).map slotAnswer).getD [])

/-- LINK_CONTROL with action REPORT (R128 case 1, R144): the port is not read. -/
def execLinkControlReport (slot _port _inversion : Byte) (s : State) : Host.Outcome State Fault Refusal :=
  .next (s.request servingModes fun s => s.onSlot slot 0xFF fun n _ => s.doneSlot n)

/-- LINK_CONTROL with action ENABLE (R128, log 27). -/
def LinkSlot.enable (k : LinkSlot) : LinkSlot :=
  if k.enabled then k
  else if k.link = .off ∧ k.port.isSome then { k with enabled := true }.enterHoldoff else { k with enabled := true }

def execLinkControlEnable (slot port _inversion : Byte) (s : State) : Host.Outcome State Fault Refusal :=
  .next (s.request [.operating] fun s => s.onSlot slot port fun n _ => (s.modSlot n LinkSlot.enable).doneSlot n)

/-- LINK_CONTROL with action DISABLE (R128, log 27): from UP a drop, from any other state OFF without one. -/
def State.disableSlot (s : State) (n : Nat) (k : LinkSlot) : State :=
  let s1 := s.modSlot n fun k => { k with enabled := false }
  if k.link = .up then s1.dropLink n .disabled else s1.modSlot n fun k => { k.quiet with link := .off }

def execLinkControlDisable (slot port _inversion : Byte) (s : State) : Host.Outcome State Fault Refusal :=
  .next (s.request [.operating] fun s => s.onSlot slot port fun n k => (s.disableSlot n k).doneSlot n).settle

/-- LINK_CONTROL with action MAP: cases 4 to 6 of R128. -/
def State.mapSlot (s : State) (port inversion : Byte) (n : Nat) (k : LinkSlot) : State :=
  let p := portOf port
  if k.link ≠ .off then s.refuse .notOff
  else if p.isSome ∧ (s.lk.any fun x => x.1 != n && x.2.port == p) then s.refuse .portInUse
  else
    (s.modSlot n fun k =>
      let k1 := { k with port := p, inverted := inversion == 1 }
      if k1.enabled ∧ p.isSome then k1.enterHoldoff else k1).doneSlot n

def execLinkControlMap (slot port inversion : Byte) (s : State) : Host.Outcome State Fault Refusal :=
  .next (s.request [.operating] fun s => s.onSlot slot port (s.mapSlot port inversion))

/-- The rule of an event at a slot. -/
def State.atSlot (s : State) (n : Nat) (rule : LinkSlot → State) : State :=
  match s.slot n with
  | some k => rule k
  | none => s

/-- The hold-off timer expires: HUNT (R132); it does not run in CONFIGURATION and STARTING. -/
def execHoldoffTimerExpiry (slot : Nat) (s : State) : Host.Outcome State Fault Refusal :=
  .next (s.atSlot slot fun k =>
    if k.link = .holdoff ∧ due k.holdoff ∧ (s.mode = .operating ∨ s.mode = .halted) then
      s.modSlot slot LinkSlot.enterHunt
    else s)

/-- The IDENT timer expires: HOLDOFF, without a drop (R134). -/
def execIdentTimerExpiry (slot : Nat) (s : State) : Host.Outcome State Fault Refusal :=
  .next (s.atSlot slot fun k =>
    if k.link = .ident ∧ due k.identTimer then s.modSlot slot LinkSlot.enterHoldoff else s)

/-- The send interval expires: another IDENT (R134). -/
def execIdentSendIntervalExpiry (slot : Nat) (s : State) : Host.Outcome State Fault Refusal :=
  .next (s.atSlot slot fun k =>
    if k.link = .ident ∧ due k.sendInterval then s.modSlot slot fun k => k.sendIdent s.areaId else s)

/-- The silence timer expires: a drop with reason SILENCE (R142). -/
def execSilenceTimerExpiry (slot : Nat) (s : State) : Host.Outcome State Fault Refusal :=
  .next (s.atSlot slot fun k =>
    if k.link = .up ∧ due k.silence then (s.dropLink slot .silence).settle else s)

/-- The image timer expires: an image for every line, or a keep-alive IDENT on a slot with no lines (R140). One that is
still due when the timer expires again stays one, which is the model's choice (log 39). -/
def execImageTimerExpiry (slot : Nat) (s : State) : Host.Outcome State Fault Refusal :=
  .next (s.atSlot slot fun k =>
    if k.link = .up ∧ due k.image then
      let s1 := s.modSlot slot fun k => { k with image := some 2 }
      if k.lines = [] then s1.modSlot slot fun k => { k with keepAlive := true }
      else forEach k.lines (fun l s => s.hand l .lineImage) s1
    else s)

/-- The transmitter is free: a keep-alive that is due goes first, else the oldest telegram (R131, R140). -/
def execLinkTelegramSend (slot : Nat) (s : State) : Host.Outcome State Fault Refusal :=
  .next (s.atSlot slot fun k =>
    if k.link ≠ .up then s
    else if k.keepAlive then
      s.modSlot slot fun k => { k.sendIdentAs s.areaId true with keepAlive := false }
    else s.sendOldest slot k)

/-- The rule of an event at the slot that a port is mapped to; a port mapped to no slot is not read (R127). -/
def State.atPort (s : State) (port : Nat) (rule : Nat → LinkSlot → State) : State :=
  match s.slotOfPort port with
  | some n => s.atSlot n (rule n)
  | none => s

/-- A character received in HUNT (R133). -/
def execHuntCharacter (port : Nat) (c : LinkChar) (s : State) : Host.Outcome State Fault Refusal :=
  .next (s.atPort port fun n _ => s.huntChar n c)

/-- A character received outside a telegram in UP: one that is not FILL, SYNC or OPEN counts a CODE error (R138). -/
def execLinkStrayCharacter (port : Nat) (c : LinkChar) (s : State) : Host.Outcome State Fault Refusal :=
  .next (s.atPort port fun n k =>
    match k.link, k.read c with
    | .up, .fill | .up, .sync | .up, .openChar => s
    | .up, _ => s.linkError n .codeError
    | .hunt, _ => s.huntChar n c
    | _, _ => s).settle

/-- The characters of a telegram that may fail framing, check, kind or length, judged one by one (R133, R134, R138). -/
def execLinkTelegramRejected (port : Nat) (chars : List LinkChar) (s : State) : Host.Outcome State Fault Refusal :=
  .next (s.atPort port fun n _ => State.readChars port n chars .between s).settle

/-- IDENT received (R135; in UP, R138 cases 7 and 8). The sequence number and line index are not read. -/
def execIdentReceived (port : Nat) (_sequence _lineIndex : Byte) (sender addressee : Word)
    (level lineCount flags : Byte) (s : State) : Host.Outcome State Fault Refusal :=
  .next (s.identArrived port sender addressee level lineCount flags).settle

end Sys2Proof.Machine
end

