-- ==== Sys2Proof/Machine/RouteCommands.lean ====
section
/-! DEFINITION. The requests on routes: SET_ROUTE (R48, R49), CANCEL_ROUTE (R113), RECLEAR (R101), TIMED_RELEASE (R122),
QUERY_ROUTE (R68), QUERY_CLAIM (R92), and the expiries of the route timers (R65, R109, R120, R124). -/

namespace Sys2Proof.Machine

/-- The rule of a request that names a route: NOT_DEFINED above 383 or where the table status is NOT_DEFINED. -/
def State.onRoute (s : State) (route : Word) (rule : Nat → State) : State :=
  if route.toNat < Config.routes ∧ (s.rse.table.find route.toNat).isSome then rule route.toNat
  else s.refuse .notDefined

/-- The examination of SET_ROUTE and its answer (R49). -/
def State.requestRoute (s : State) (r : Nat) (hold noStore : Bool) : State :=
  match s.examine r with
  | .ok (d, xs) =>
    match s.rsv.lowestFree Config.routeSlots with
    | some slot => (s.take r hold slot d xs).reply .set [byteOf slot]
    | none => s.refuse .recordsFull
  | .error (reason, e) =>
    if reason.waitable ∧ ¬noStore then
      let s1 := s.joinQueue { route := r, hold := hold, timer := some 600, reason := reason, element := e }
      s1.reply .stored [byteOf s1.rse.queue.length]
    else s.refuse reason e

/-- SET_ROUTE: the immediate refusals in order, then the examination (R48). Options: bit 0 HOLD_SIGNAL, bit 1
NO_STORE. -/
def State.setRoute (s : State) (options : Byte) (r : Nat) : State :=
  if (s.activeRecord r).isSome then s.refuse .active
  else if s.rse.queue.any fun q => q.route == r then s.refuse .duplicate
  else if Config.queueLength ≤ s.rse.queue.length then s.refuse .queueFull
  else s.requestRoute r (options.getLsbD 0) (options.getLsbD 1)

def execSetRoute (route : Word) (options : Byte) (s : State) : Host.Outcome State Fault Refusal :=
  .next (s.request [.operating] fun s => s.onRoute route (s.setRoute options)).settle

/-- A cancellation with the approach check (R117). -/
def State.cancelCleared (s : State) (slot : Nat) (r : RouteRecord) : State :=
  let s1 := if r.state = .locked then s else s.writeSignalDemand r.definition.entry .stop
  match s1.approachCheck r.definition with
  | none => (s1.endRecord slot .cancelled).done [1]
  | some hold =>
    (s1.modRecord slot fun r => { r with state := .approachHold, holdTimer := some hold }).done (2 :: wordBytes hold)

/-- Cases 5 to 9 of R113. -/
def State.cancelRecord (s : State) (slot : Nat) (r : RouteRecord) : State :=
  match r.state with
  | .setting | .handoverWait => (s.endRecord slot .cancelled).done [1]
  | .locked => if r.shownProceed then s.cancelCleared slot r else (s.endRecord slot .cancelled).done [1]
  | .clearing | .cleared => s.cancelCleared slot r
  | .inUse => s.refuse .inUse
  | .approachHold | .timedRelease => s.refuse .releasing

/-- CANCEL_ROUTE in OPERATING (R113, R114). -/
def State.cancelRoute (s : State) (r : Nat) : State :=
  if s.rse.queue.any fun q => q.route == r then ((s.leaveQueue r).writeOutcome r .cancelled).done [0]
  else match s.activeRecord r with
    | none => s.refuse .notActive
    | some (slot, t) => s.cancelRecord slot t

def execCancelRoute (route : Word) (s : State) : Host.Outcome State Fault Refusal :=
  .next (s.request [.operating] fun s => s.onRoute route s.cancelRoute).settle

/-- RECLEAR in OPERATING: cases 3 to 6 of R101. -/
def State.reclear (s : State) (r : Nat) : State :=
  match s.activeRecord r with
  | none => s.refuse .notActive
  | some (slot, t) =>
    if t.state ≠ .locked then s.refuse .notLocked
    else match s.conditionFailure slot t with
      | some (reason, e) =>
        s.reply .refused (Reason.conditions.code :: elementBytes none ++ (reason.code :: elementBytes (some e)))
      | none => (s.clearRecord slot t).done

def execReclear (route : Word) (s : State) : Host.Outcome State Fault Refusal :=
  .next (s.request [.operating] fun s => s.onRoute route s.reclear)

/-- The move to TIMED_RELEASE (R122). -/
def State.beginTimedRelease (s : State) (slot : Nat) (r : RouteRecord) : State :=
  let hold := r.definition.longestHold
  ((s.writeSignalDemand r.definition.entry .stop).modRecord slot fun r =>
    { r with state := .timedRelease, holdTimer := some hold, overlapTimer := none,
             overlapStatus := if r.overlapStatus = .timing then .held else r.overlapStatus }).done (wordBytes hold)

/-- TIMED_RELEASE in OPERATING: cases 3 to 6 of R122. -/
def State.timedRelease (s : State) (r : Nat) : State :=
  match s.activeRecord r with
  | none => s.refuse .notActive
  | some (slot, t) =>
    match t.state with
    | .setting | .handoverWait | .clearing | .cleared => s.refuse .notLocked
    | .timedRelease => s.refuse .releasing
    | .locked | .inUse | .approachHold => s.beginTimedRelease slot t

def execTimedRelease (route : Word) (s : State) : Host.Outcome State Fault Refusal :=
  .next (s.request [.operating] fun s => s.onRoute route s.timedRelease)

/-- QUERY_ROUTE (R68): only an id above 383 is NOT_DEFINED. -/
def execQueryRoute (route : Word) (s : State) : Host.Outcome State Fault Refusal :=
  .next (s.request servingModes fun s =>
    if route.toNat < Config.routes then s.done (s.routeAnswer route.toNat) else s.refuse .notDefined)

/-- QUERY_CLAIM (R92): by claim record, element or line; an element id without a record is refused (R1). -/
def State.queryClaim (selector : Byte) (number : Word) (s : State) : State :=
  let n := number.toNat
  match selector.toNat with
  | 0 => if n < Config.claims then s.done (claimAnswer (s.claimRecord n)) else s.refuse .notDefined
  | 1 => if n < Config.elements ∧ (s.element n).isSome then s.done (claimAnswer ((s.claimOn n).map (·.2))) else s.refuse .notDefined
  | 2 => if n < Config.lines then s.done (s.lineClaimAnswer n) else s.refuse .notDefined
  | _ => s.refuse .notDefined

def execQueryClaim (selector : Byte) (number : Word) (s : State) : Host.Outcome State Fault Refusal :=
  .next (s.request servingModes (State.queryClaim selector number))

/-- The storage timer of a queue entry expires (R65). -/
def execStorageTimerExpiry (route : Nat) (s : State) : Host.Outcome State Fault Refusal :=
  .next (match s.rse.queue.find? fun q => q.route == route with
    | some q =>
      if due q.timer then (s.leaveQueue route).writeOutcome route (.storageTimeout q.reason q.element) else s
    | none => s)

/-- The overlap timer of a record expires (R109, R111). -/
def State.overlapExpired (s : State) (slot : Nat) (r : RouteRecord) : State :=
  State.handChangedItems s ((s.releaseOverlap slot r).afterRelease slot)

def execOverlapTimerExpiry (slot : Nat) (s : State) : Host.Outcome State Fault Refusal :=
  .next (match s.routeRecord slot with
    | some r => if r.overlapStatus = .timing ∧ due r.overlapTimer then (s.overlapExpired slot r).settle else s
    | none => s)

/-- The hold timer of a record in APPROACH_HOLD expires (R120). -/
def execApproachHoldExpiry (slot : Nat) (s : State) : Host.Outcome State Fault Refusal :=
  .next (match s.routeRecord slot with
    | some r => if r.state = .approachHold ∧ due r.holdTimer then (s.endRecord slot .cancelled).settle else s
    | none => s)

/-- The hold timer of a record in TIMED_RELEASE expires (R124). -/
def execTimedReleaseExpiry (slot : Nat) (s : State) : Host.Outcome State Fault Refusal :=
  .next (match s.routeRecord slot with
    | some r => if r.state = .timedRelease ∧ due r.holdTimer then (s.endRecord slot .released).settle else s
    | none => s)

end Sys2Proof.Machine
end

