-- ==== Sys2Proof/Machine/Topology.lean ====
section
/-! DEFINITION. The topology store: reads and their classes (R173), the START pass (R175), the tables built from the
descriptions (R194's layouts; R1, R2, R25, R45, R69, R126, R146), their validation (R176) and the two ends of a
START (R177). Choices of validation are log 16. -/

namespace Sys2Proof.Machine

/-! Reads. -/

/-- The class of a number of bit errors (R173). -/
def classOf (errors : Nat) : ReadClass :=
  if errors = 0 then .clean else if errors ≤ 2 then .correctedLow else if errors ≤ 4 then .correctedHigh
  else .uncorrectable

/-- The class a read of a segment gives (R173): CLEAN where the frozen mark is clear. -/
def Segment.readClass (g : Segment) : ReadClass := if g.frozen then classOf g.flips.eraseDups.length else .clean

/-- The condition after a read of a class: it only worsens (R169, R173). -/
def Condition.after : Condition → ReadClass → Condition
  | .good, .correctedHigh => .marginal
  | .good, .uncorrectable => .withdrawn
  | .marginal, .uncorrectable => .withdrawn
  | c, _ => c

/-- A read of a segment by TOPO_READ or the scan (R173): the class is kept, a frozen segment's condition may worsen,
and INTEGRITY is latched when it does. -/
def State.readSegment (s : State) (g : Nat) : State :=
  let r := s.segment g
  let c := r.readClass
  if r.frozen then
    State.latchIf (r.condition.after c != r.condition) .integrity
      (s.setSegment g { r with lastClass := c, condition := r.condition.after c })
  else s.setSegment g { r with lastClass := c }

/-- A stored byte with its decayed bits: place 0 is bit 7 of byte 0 (log 8). -/
def rawByte (flips : List Nat) (offset : Nat) (b : Byte) : Byte :=
  (List.range 8).foldl (fun b i => if flips.contains (8 * offset + i) then b ^^^ ((0x80 : Byte) >>> i) else b) b

/-- The bytes a read returns: corrected, or raw where the segment is uncorrectable (R173). -/
def State.readBytes (s : State) (g offset n : Nat) : List Byte :=
  let r := s.segment g
  (List.range n).map fun i =>
    let b := s.ts.mem.read (storeAddress g (offset + i))
    if r.readClass = .uncorrectable then rawByte r.flips (offset + i) b else b

/-- One segment read by the START pass: its condition is derived afresh (R175). -/
def State.passSegment (g : Nat) (s : State) : State :=
  let r := s.segment g
  if r.frozen then
    let c := r.readClass
    State.latchIf (c == .correctedHigh || c == .uncorrectable) .integrity
      (s.setSegment g { r with lastClass := c, condition := match c with
        | .clean | .correctedLow => .good | .correctedHigh => .marginal | .uncorrectable => .withdrawn })
  else if s.ts.segments.find g = none then s
  else s.setSegment g { r with lastClass := .clean }

/-- The first `n` segments read by the START pass (R175, log 11). -/
def State.passSegments (s : State) (n : Nat) : State := forEach (List.range n) State.passSegment s

/-! Descriptions. -/

/-- How a segment's descriptions stand at START: not defined, withdrawn, or readable. -/
inductive Found where
  | absent | withdrawn | readable
  deriving DecidableEq, Repr

def State.found (s : State) (g : Nat) : Found :=
  let r := s.segment g
  if ¬r.frozen then .absent else if r.condition = .withdrawn then .withdrawn else .readable

/-- A byte of the store. -/
def State.byteAt (s : State) (a : Nat) : Byte := s.ts.mem.read a
/-- A two-byte field of the store. -/
def State.wordAt (s : State) (a : Nat) : Word := wordOf (s.byteAt a) (s.byteAt (a + 1))

def elementSegment (e : Nat) : Nat := 1 + e / 16
def elementBase (e : Nat) : Nat := storeAddress (elementSegment e) (32 * (e % 16))
def lineSegment (l : Nat) : Nat := 34 + l / 8
def lineBase (l : Nat) : Nat := storeAddress (lineSegment l) (64 * (l % 8))
def groupSegment (g : Nat) : Nat := 36 + g / 16
def groupBase (g : Nat) : Nat := storeAddress (groupSegment g) (32 * (g % 16))
def routeSegment (r : Nat) : Nat := 52 + r / 2
def routeBase (r : Nat) : Nat := storeAddress (routeSegment r) (256 * (r % 2))

/-- The body of a readable element description (R2, R3, R22), with its supervision timer started (R29); none where
the kind byte names no kind (R1). -/
def State.bodyAt (s : State) (a : Nat) : Option Body :=
  match (s.byteAt a).toNat with
  | 1 => some (.sect { length := s.wordAt (a + 3), timeout := s.byteAt (a + 5),
                       supervision := some (supervisionTime (s.byteAt (a + 5))) })
  | 2 => some (.points { containing := (s.wordAt (a + 3)).toNat, throwLimit := s.byteAt (a + 5),
                         timeout := s.byteAt (a + 6), supervision := some (supervisionTime (s.byteAt (a + 6))) })
  | 3 => some (.signal { provingTime := s.byteAt (a + 3), timeout := s.byteAt (a + 4),
                         supervision := some (supervisionTime (s.byteAt (a + 4))) })
  | 4 => some (.boundary { line := (s.byteAt (a + 3)).toNat, remoteLength := s.wordAt (a + 4) })
  | _ => none

/-- The record of an element id at START (R1, R8, R22). -/
def State.buildElement (s : State) (e : Nat) : Option Element :=
  match s.found (elementSegment e) with
  | .absent => none
  | .withdrawn => some { segment := none, address := none, withdrawn := true, body := .none }
  | .readable =>
    (s.bodyAt (elementBase e)).map fun b =>
      { segment := some (elementSegment e), address := some (s.wordAt (elementBase e + 1)), body := b }

/-- A table of the records that `f` gives for the identifiers below `n`. -/
def buildTable {α : Type} (n : Nat) (f : Nat → Option α) : Table α :=
  (List.range n).filterMap fun i => (f i).map fun a => (i, a)

/-- The map of segment 33 (R25). -/
def State.buildMap (s : State) : List MapEntry :=
  (List.range Config.mapEntries).map fun i =>
    let a := storeAddress 33 (8 * i)
    if s.found 33 = .readable then
      { matchValue := s.wordAt a, mask := s.wordAt (a + 2), base := s.wordAt (a + 4), window := s.wordAt (a + 6) }
    else .erased

/-- The line record of a line id at START (R146, R167). A stored policy that names none of the three is ASK_HOST. A line
that is withdrawn holds no boundary element, which is the model's choice (log 37). -/
def State.buildLine (s : State) (es : Table Element) (l : Nat) : Option Line :=
  let a := lineBase l
  let stored : Line :=
    { slot := some (s.byteAt a).toNat, index := (s.byteAt (a + 1)).toNat,
      boundary := (es.find? fun p => match p.2.body with | .boundary b => b.line == l | _ => false).map (·.1),
      border := (s.wordAt (a + 2)).toNat, entrySignal := (s.wordAt (a + 4)).toNat,
      items := (List.range (min 8 (s.byteAt (a + 7)).toNat)).filterMap fun i =>
        (demandOf (s.byteAt (a + 10 + 3 * i))).map fun d => ((s.wordAt (a + 8 + 3 * i)).toNat, d),
      policy := (policyOf (s.byteAt (a + 6))).getD .askHost }
  match s.found (lineSegment l) with
  | .absent => none
  | .withdrawn => some { slot := none, index := 0, boundary := none, border := 0, entrySignal := 0, items := [],
                         withdrawn := true, policy := .askHost }
  | .readable => if s.byteAt a = erased then none else some stored

/-- The `i`-th alternative of a group description (R194). -/
def State.alternativeAt (s : State) (a : Nat) : Option Alternative :=
  match (s.byteAt a).toNat with
  | 1 => (demandOf (s.byteAt (a + 3))).map fun d => .localAlt (s.wordAt (a + 1)).toNat d
  | 2 => some (.remoteAlt (s.byteAt (a + 1)).toNat (s.byteAt (a + 2)).toNat)
  | _ => none

/-- The group of a flank group id at START (R69, R70). -/
def State.buildGroup (s : State) (g : Nat) : Option Group :=
  let a := groupBase g
  let stored : Group :=
    { available := true, protectedElement := (s.wordAt a).toNat,
      position := (positionOf (s.byteAt (a + 2))).getD .normal,
      alternatives := (List.range (min 4 (s.byteAt (a + 3)).toNat)).filterMap fun i => s.alternativeAt (a + 4 + 4 * i) }
  match s.found (groupSegment g) with
  | .absent => none
  | .withdrawn => some .unread
  | .readable => if s.byteAt a = erased then none else some stored

/-- The entries of a path or overlap (R46): a POINTS entry has its required position. -/
def State.entriesAt (s : State) (es : Table Element) (a n : Nat) : List PathEntry :=
  (List.range n).map fun i =>
    let e := (s.wordAt (a + 3 * i)).toNat
    let isPoints := match es.find e with
      | some r => match r.body with | .points _ => true | _ => false
      | none => false
    { element := e, position := if isPoints then positionOf (s.byteAt (a + 3 * i + 2)) else none }

/-- The definition of a readable route description (R46, R194). -/
def State.definitionAt (s : State) (es : Table Element) (a : Nat) : Definition :=
  let exit := (s.wordAt (a + 2)).toNat
  let beyond := (s.wordAt (a + 9)).toNat
  { entry := (s.wordAt a).toNat, exit := exit,
    line := (es.find exit).bind fun r => match r.body with | .boundary b => some b.line | _ => none,
    priority := min 3 (s.byteAt (a + 4)).toNat,
    path := s.entriesAt es (a + 18) (min 24 (s.byteAt (a + 5)).toNat),
    overlap := s.entriesAt es (a + 90) (min 6 (s.byteAt (a + 6)).toNat),
    beyond := if beyond = 0xFFFF then none else some beyond,
    approach := (List.range (min 6 (s.byteAt (a + 7)).toNat)).map fun i => (s.wordAt (a + 108 + 2 * i)).toNat,
    speed := s.byteAt (a + 11), margin := s.wordAt (a + 12), tMin := s.byteAt (a + 14), tMax := s.wordAt (a + 15),
    overlapTime := s.byteAt (a + 17),
    flanks := (List.range (min 12 (s.byteAt (a + 8)).toNat)).map fun i =>
      ((s.byteAt (a + 120 + 2 * i)).toNat, (s.byteAt (a + 121 + 2 * i)).toNat) }

/-- The route table entry of a route id at START (R45). -/
def State.buildRoute (s : State) (es : Table Element) (r : Nat) : Option RouteEntry :=
  match s.found (routeSegment r) with
  | .absent => none
  | .withdrawn => some { available := false, definition := none }
  | .readable =>
    if s.byteAt (routeBase r) = erased then none
    else some { available := true, definition := some (s.definitionAt es (routeBase r)) }

/-- The line ids of a slot by line index 0 to 7 (R126); lines that START could not read have no slot. -/
def slotLines (bu : Table Line) (n : Nat) : List Nat :=
  (List.range 8).filterMap fun i => (bu.find? fun p => p.2.slot == some n && p.2.index == i).map (·.1)

/-- A slot record with its START fields rebuilt and its link placed (R126, R145). -/
def State.buildSlot (s : State) (bu : Table Line) (n : Nat) (k : LinkSlot) : LinkSlot :=
  let a := 2 + 6 * n
  let k1 := { k with enabled := s.byteAt a == 1, port := portOf (s.byteAt (a + 1)), inverted := s.byteAt (a + 2) == 1,
                     expected := s.wordAt (a + 3), threshold := s.byteAt (a + 5), lines := slotLines bu n }
  if k1.enabled && k1.port.isSome then k1.enterHoldoff else { k1.quiet with link := .off }

/-- The state with every table built from the store (R175). -/
def State.buildTables (s : State) : State :=
  let es := buildTable Config.elements s.buildElement
  let bu := buildTable Config.lines (s.buildLine es)
  { s with
    areaId := s.wordAt 0
    es := es
    bu := bu
    fi := { s.fi with map := s.buildMap }
    fu := { groups := buildTable Config.groups s.buildGroup, claims := [], items := [], nextAsk := [] }
    rse := { table := buildTable Config.routes (s.buildRoute es), queue := [], triggers := 0 }
    rsv := []
    lk := s.lk.map fun p => (p.1, s.buildSlot bu p.1 p.2) }

/-! Validation (R176): each check gives the reason of its failure. -/

def failIf (b : Bool) (r : Reason) : Option Reason := if b then some r else none

/-- The kind and fields of an element, when it has a record. -/
def State.bodyOf (s : State) (e : Nat) : Option Body := (s.element e).map (·.body)

/-- A reference to an element of a wanted kind: a withdrawn one passes. -/
def State.refers (s : State) (e : Nat) (wanted : Body → Bool) : Option Reason :=
  match s.element e with
  | none => some .badReference
  | some r => match r.body with | .none => none | b => failIf (!wanted b) .badKind

def Body.isSection : Body → Bool | .sect _ => true | _ => false
def Body.isPoints : Body → Bool | .points _ => true | _ => false
def Body.isSignal : Body → Bool | .signal _ => true | _ => false
def Body.isBoundary : Body → Bool | .boundary _ => true | _ => false
/-- The kind that a demanded state names (R70). -/
def Demand.wants : Demand → Body → Bool
  | .pointsNormal, b | .pointsReverse, b => b.isPoints
  | .signalStop, b => b.isSignal
  | .sectionClear, b => b.isSection

/-- An element with the state demanded of it, the code as stored; a code outside its set is judged before the element is
looked up (log 16). -/
def State.refersDemand (s : State) (e : Nat) (code : Byte) : Option Reason :=
  match demandOf code with
  | none => some .badKind
  | some d => s.refers e d.wants

/-- The ids of the BOUNDARY elements that name a line. -/
def State.boundariesOf (s : State) (l : Nat) : List Nat :=
  (s.es.filter fun p => match p.2.body with | .boundary b => b.line == l | _ => false).map (·.1)

def State.checkElement (s : State) (e : Nat) : Option Reason :=
  match s.bodyOf e with
  | some (.points b) => s.refers b.containing Body.isSection
  | some (.boundary b) => failIf ((s.line b.line).isNone || decide (1 < (s.boundariesOf b.line).length)) .boundaryLine
  | _ => none

def State.checkLine (s : State) (l : Nat) : Option Reason :=
  match s.line l with
  | none => none
  | some r =>
    match r.slot with
    | none => none
    | some n =>
      let a := lineBase l
      let count := (s.byteAt (a + 7)).toNat
      let items := (List.range count).map fun i => ((s.wordAt (a + 8 + 3 * i)).toNat, s.byteAt (a + 10 + 3 * i))
      [failIf (decide (4 ≤ n)) .badReference,
       failIf ((s.boundariesOf l).length != 1) .boundaryLine,
       s.refers r.border Body.isSection,
       s.refers r.entrySignal Body.isSignal,
       failIf (decide (8 < count)) .badLength,
       items.findSome? fun x => s.refersDemand x.1 x.2,
       failIf (!decide (items.map (·.1)).Nodup) .badForm].findSome? id

/-- The requirement on a LOCAL alternative (R70); one of another form meets it. -/
def State.checkLocal (s : State) (protectedElement a : Nat) : Option Reason :=
  if s.byteAt a = 1 then
    (s.refersDemand (s.wordAt (a + 1)).toNat (s.byteAt (a + 3))).or
      (failIf ((s.wordAt (a + 1)).toNat == protectedElement) .badForm)
  else none

/-- The requirement on a REMOTE alternative (R70); one of another form meets it. -/
def State.checkRemote (s : State) (a : Nat) : Option Reason :=
  if s.byteAt a = 2 then failIf (s.line (s.byteAt (a + 1)).toNat).isNone .badReference else none

/-- A group's requirements in the order of R70: protected element, count, every LOCAL alternative, every REMOTE one. The
position is judged after the protected element and the forms of the alternatives after their count (log 16). -/
def State.checkGroup (s : State) (g : Nat) : Option Reason :=
  match s.fu.groups.find g with
  | none => none
  | some r =>
    if ¬r.available then none
    else
      let a := groupBase g
      let count := (s.byteAt (a + 3)).toNat
      let places := (List.range count).map fun i => a + 4 + 4 * i
      [s.refers r.protectedElement Body.isPoints,
       failIf (positionOf (s.byteAt (a + 2))).isNone .badForm,
       failIf (count == 0 || decide (4 < count)) .badLength,
       failIf (places.any fun p => s.byteAt p != 1 && s.byteAt p != 2) .badForm,
       places.findSome? (s.checkLocal r.protectedElement),
       places.findSome? s.checkRemote].findSome? id

/-- One way to read the entries of a path or overlap so far (R47): the last SECTION entry, if one has come, and how many
there are. -/
structure FormReading where
  last : Option Nat
  sections : Nat
  deriving DecidableEq, Repr

/-- The required position that the route description at `a` stores for entry index `i` (R46, R194), whatever the kind of
the entry's element; an overlap entry has its place plus 24. -/
def State.storedPosition (s : State) (a i : Nat) : Option Position :=
  positionOf (s.byteAt (if i < 24 then a + 18 + 3 * i + 2 else a + 90 + 3 * (i - 24) + 2))

/-- The readings of a list with one entry more (R47). A SECTION entry opens a step; a POINTS entry needs a required
position and its containing section as the last SECTION entry. An entry whose element is withdrawn is read in each way that
its kind might allow: as a SECTION entry unless `tied` names it, and as a POINTS entry where its stored position is one. Of
the readings that end in one section only the shortest count matters. -/
def State.readEntry (s : State) (a : Nat) (tied : List Nat) (rs : List FormReading) (x : PathEntry × Nat) :
    List FormReading :=
  let e := x.1.element
  let asSection := ((rs.map (·.sections)).min?.map fun n => { last := some e, sections := n + 1 : FormReading }).toList
  match s.bodyOf e with
  | some (.sect _) => asSection
  | some (.points b) => rs.filter fun r => x.1.position.isSome && r.last == some b.containing
  | _ => (rs.filter fun r => (s.storedPosition a x.2).isSome && r.last.isSome)
      ++ (if x.2 ∈ tied then [] else asSection)

/-- The ways to read a list whose first entry has index `first` in the route description at `a`, with at most 12 SECTION
entries (R47); with none, the form fails whatever the withdrawn elements are. -/
def State.readings (s : State) (a : Nat) (tied : List Nat) (first : Nat) (xs : List PathEntry) : List FormReading :=
  ((xs.zipIdx first).foldl (s.readEntry a tied) [{ last := none, sections := 0 }]).filter fun r =>
    decide (r.sections ≤ 12)

/-- The order and form of both lists of a definition (R47); the entries that `tied` names are POINTS entries. -/
def State.formHolds (s : State) (a : Nat) (d : Definition) (tied : List Nat) : Bool :=
  !(s.readings a tied 0 d.path).isEmpty && !(s.readings a tied 24 d.overlap).isEmpty

/-- Whether an element has no kind (withdrawn at START). -/
def State.isUnread (s : State) (e : Nat) : Bool :=
  match s.bodyOf e with | some .none => true | _ => false

/-- A flank reference of the route description at `a` against its group and tied entry (R47). Whether an entry
whose element is withdrawn can be a POINTS entry is judged by `formHolds`; what the two readable descriptions store is
compared all the same, but a group that is withdrawn is not compared with its tied entry (R176). -/
def State.checkFlankRef (s : State) (a : Nat) (d : Definition) (f : Nat × Nat) : Option Reason :=
  match s.fu.groups.find f.1 with
  | none => some .badReference
  | some g =>
    match (if f.2 < 24 then d.path[f.2]? else d.overlap[f.2 - 24]?) with
    | none => some .badForm
    | some x =>
      let agrees := x.element == g.protectedElement && s.storedPosition a f.2 == some g.position
      if !s.isUnread x.element && x.position.isNone then some .badForm
      else failIf (g.available && !agrees) .badForm

/-- The last path section is the border section of the route's line (R146), in some reading of the path. -/
def State.checkBorder (s : State) (a : Nat) (d : Definition) : Option Reason :=
  match d.line.bind s.line with
  | some r => failIf (r.slot.isSome && (s.readings a (d.flanks.map (·.2)) 0 d.path).all fun f => f.last != some r.border)
      .boundaryLine
  | none => none

/-- A route's requirements: those of R46 with the lengths of its lists, then those of R47, a required position outside its
set (R194) with the form of its list, and last the border section (R146). Where the position and the border section stand
in the order is the model's choice, and that the entries tied to a reference can be POINTS entries is judged after the
references (log 16). -/
def State.checkRoute (s : State) (r : Nat) : Option Reason :=
  match (s.rse.table.find r).bind (·.definition) with
  | none => none
  | some d =>
    let a := routeBase r
    let count (i : Nat) : Nat := (s.byteAt (a + i)).toNat
    let onTrack (b : Body) := b.isSection || b.isPoints
    [s.refers d.entry Body.isSignal,
     s.refers d.exit fun b => b.isSignal || b.isBoundary,
     failIf (count 5 == 0 || decide (24 < count 5)) .badLength,
     d.path.findSome? fun x => s.refers x.element onTrack,
     failIf (decide (6 < count 6)) .badLength,
     d.overlap.findSome? fun x => s.refers x.element onTrack,
     d.beyond.bind fun e => s.refers e Body.isSection,
     failIf (decide (6 < count 7)) .badLength,
     d.approach.findSome? fun e => s.refers e fun b => b.isSection || b.isBoundary,
     failIf (decide (12 < count 8)) .badLength,
     failIf (!s.formHolds a d []) .badForm,
     failIf (!decide (d.entry :: (d.path ++ d.overlap).map (·.element)).Nodup) .badForm,
     failIf (!s.isUnread d.exit && d.line.isSome == d.beyond.isSome) .badForm,
     d.flanks.findSome? (s.checkFlankRef a d),
     failIf (!s.formHolds a d (d.flanks.map (·.2))) .badForm,
     s.checkBorder a d].findSome? id

/-- The judgments made with segment 0 (R176). A line whose index is above 7 is in no slot's list and fails with LINE_INDEX,
which is the model's choice (log 16). -/
def State.checkHeader (s : State) : Option Reason :=
  let ports := s.lk.filterMap (·.2.port)
  let peers := s.lk.filter fun p => p.2.enabled && p.2.port.isSome
  [failIf (!decide ports.Nodup) .portMap,
   failIf (peers.any fun p => p.2.expected == 0 || decide (4095 < p.2.expected.toNat) || p.2.expected == s.areaId)
     .peerId,
   failIf (s.lk.any fun p => (s.bu.filter fun l => l.2.slot == some p.1).length != p.2.lines.length
     || decide ((p.2.lines.zipIdx.any fun x => (s.line x.1).any fun r => r.index != x.2))) .lineIndex].findSome? id

/-- The failures of `n` descriptions of one kind in ascending place, with segment and place. -/
def firstFailure (n perSegment first : Nat) (check : Nat → Option Reason) : Option (Nat × Nat × Reason) :=
  (List.range n).findSome? fun i => (check i).map fun r => (first + i / perSegment, i % perSegment, r)

/-- The first failure of the built tables (R176): segment, place, reason. -/
def State.validate (s : State) : Option (Nat × Nat × Reason) :=
  (s.checkHeader.map fun r => (0, 0, r)).or
    ((firstFailure Config.elements 16 1 s.checkElement).or
      ((firstFailure Config.lines 8 34 s.checkLine).or
        ((firstFailure Config.groups 16 36 s.checkGroup).or
          (firstFailure Config.routes 2 52 s.checkRoute))))

/-- The judgment of segment 0 at the end of the pass (R175). -/
def State.headerFailure (s : State) : Option Reason :=
  match s.found 0 with
  | .absent => some .headerNotFrozen
  | .withdrawn => some .headerWithdrawn
  | .readable => failIf ((s.wordAt 0) == 0 || decide (4095 < (s.wordAt 0).toNat)) .headerAreaId

/-- A START that fails (R177): every table discarded, the slots as they stood. -/
def State.startFails (s : State) (g place : Nat) (r : Reason) : State :=
  { s with mode := .configuration, ts := { s.ts with lastStart := some (.failed g place r) } }.latch .modeChange

/-- A START that succeeds, from the built tables (R177): OPERATING, every signal demanded STOP, the scan at 0. -/
def State.startSucceeds (built : State) : State :=
  ({ built with
      mode := .operating
      ts := { built.ts with lastStart := some .succeeded, scanPosition := 0, scanTimer := some 5 } }.latch
    .modeChange).stopAllSignals

/-- The end of the START pass (R175 to R177). -/
def State.finishStart (s : State) : State :=
  let s1 := s.passSegments Config.segments
  match s1.headerFailure with
  | some r => s1.startFails 0 0 r
  | none =>
    let built := s1.buildTables
    match built.validate with
    | some (g, place, r) => s1.startFails g place r
    | none => built.startSucceeds

end Sys2Proof.Machine
end

