-- ==== Sys2Proof/Machine/StoreCommands.lean ====
section
/-! DEFINITION. The commands of the topology store and of the modes: programming and freezing (R170 to R172), reading
(R173, R174), START and its pass (R175 to R177), the scan (R178), RESTART (R181) and power-on reset. -/

namespace Sys2Proof.Machine

/-- TOPO_PROGRAM in CONFIGURATION: cases 2 to 6 of R170. -/
def State.program (segment : Byte) (offset : Word) (data : List Byte) (s : State) : State :=
  let g := segment.toNat
  let r := s.segment g
  if s.ts.op.isSome then s.reply .busy []
  else if Config.segments ≤ g ∨ data.length = 0 ∨ 240 < data.length
      ∨ Config.segmentBytes < offset.toNat + data.length then s.refuse .range
  else if r.frozen then s.refuse .frozen
  else if 4 ≤ r.count then s.refuse .programLimit
  else
    let s1 := s.setSegment g { r with count := r.count + 1 }
    { s1 with ts := { s1.ts with op := some (.program g offset.toNat data) } }.done

def execTopoProgram (segment : Byte) (offset : Word) (data : List Byte) (s : State) :
    Host.Outcome State Fault Refusal :=
  .next (s.request [.configuration] (State.program segment offset data))

/-- A program completes: each addressed byte becomes the AND of its old value and the byte sent (R170). -/
def execTopoProgramComplete (s : State) : Host.Outcome State Fault Refusal :=
  .next (match s.ts.op with
    | some (.program g offset data) =>
      { s with ts := { s.ts with op := none, mem := s.ts.mem.andBytes (storeAddress g offset) data } }
    | _ => s)

/-- TOPO_FREEZE in CONFIGURATION (R171). -/
def State.freeze (segment : Byte) (s : State) : State :=
  let g := segment.toNat
  if s.ts.op.isSome then s.reply .busy []
  else if Config.segments ≤ g then s.refuse .range
  else if (s.segment g).frozen then s.refuse .frozen
  else { s with ts := { s.ts with op := some (.freeze g) } }.done

def execTopoFreeze (segment : Byte) (s : State) : Host.Outcome State Fault Refusal :=
  .next (s.request [.configuration] (State.freeze segment))

/-- A freeze completes: the segment is FROZEN_GOOD with last class CLEAN, its check code that of its contents (R171). -/
def execTopoFreezeComplete (s : State) : Host.Outcome State Fault Refusal :=
  .next (match s.ts.op with
    | some (.freeze g) =>
      { s with ts := { s.ts with op := none } }.modSegment g fun r =>
        { r with frozen := true, condition := .good, lastClass := .clean, flips := [] }
    | _ => s)

/-- TOPO_READ in CONFIGURATION (R173, R174). The bytes are sent without a count, which is the model's choice (log 15). -/
def State.topoRead (segment : Byte) (offset : Word) (count : Byte) (s : State) : State :=
  let g := segment.toNat
  if Config.segments ≤ g ∨ count.toNat = 0 ∨ 240 < count.toNat
      ∨ Config.segmentBytes < offset.toNat + count.toNat then s.refuse .range
  else (s.readSegment g).done (s.readBytes g offset.toNat count.toNat ++ [(s.segment g).readClass.code])

def execTopoRead (segment : Byte) (offset : Word) (count : Byte) (s : State) : Host.Outcome State Fault Refusal :=
  .next (s.request [.configuration] (State.topoRead segment offset count))

/-- TOPO_STATUS in CONFIGURATION (R174). -/
def State.topoStatus (segment : Byte) (s : State) : State :=
  let r := s.segment segment.toNat
  if Config.segments ≤ segment.toNat then s.refuse .range
  else s.done [r.stateCode, byteOf r.count, r.lastClass.code]

def execTopoStatus (segment : Byte) (s : State) : Host.Outcome State Fault Refusal :=
  .next (s.request [.configuration] (State.topoStatus segment))

/-- START in CONFIGURATION: STARTING (R175). -/
def execStart (s : State) : Host.Outcome State Fault Refusal :=
  .next (s.request [.configuration] fun s => { s with mode := .starting }.done)

/-- The START pass ends (R175); it begins only once no store operation is in flight (R172, log 12). -/
def execStartPassComplete (s : State) : Host.Outcome State Fault Refusal :=
  .next (if s.mode = .starting ∧ s.ts.op = none then s.finishStart.settle else s)

/-- A scan read (R178): a withdrawal is delivered, that of segment 0 as entry to HALTED (R179, R180). -/
def State.scan (s : State) : State :=
  let g := s.ts.scanPosition
  let next : State :=
    { s with ts := { s.ts with scanPosition := if g = 243 then 0 else g + 1, scanTimer := some 5 } }
  let s1 := next.readSegment g
  if (s.segment g).condition ≠ .withdrawn ∧ (s1.segment g).condition = .withdrawn then
    if g = 0 then s1.enterHalted else s1.deliverWithdrawal g
  else s1

def execScanTimerExpiry (s : State) : Host.Outcome State Fault Refusal :=
  .next (if s.mode = .operating ∧ due s.ts.scanTimer then s.scan.settle else s)

/-- A slot at RESTART (R145). -/
def LinkSlot.restarted (k : LinkSlot) : LinkSlot :=
  { (if k.link = .off then k else k.enterHoldoff) with
    level := 0, goodRun := 0, txSequence := 0, rxSequence := none, restartPending := true, sync := 0,
    answerMark := false }

/-- A START pass abandoned: the conditions derived so far are kept; how many is a free value (R175, log 11). -/
def State.abandonPass (s : State) : State :=
  if s.mode = .starting ∧ s.ts.op = none then
    { s.passSegments (Config.passProgress s.fresh % 245) with fresh := s.fresh + 1 }
  else s

/-- What RESTART discards and keeps (R181, with R22, R25, R34, R45, R61, R93, R112, R145, R167, R193). -/
def State.restarted (s : State) : State :=
  let s1 := s.abandonPass.stopAllSignals
  { s1 with
    mode := .configuration
    areaId := 0
    cp := { s1.cp with latches := 0 }
    ts := { s1.ts with scanTimer := none }
    es := []
    fi := { s1.fi with map := [], demands := s1.fi.demands.filter (fun p => p.2.kind == .signal), lastSent := 511 }
    rse := { table := [], queue := [], triggers := 0 }
    rsv := []
    fu := { groups := [], claims := [], items := [], nextAsk := [] }
    lk := s1.lk.map fun p => (p.1, p.2.restarted)
    bu := [] }

/-- RESTART (R181): answered DONE after its effect (R193). -/
def execRestart (s : State) : Host.Outcome State Fault Refusal :=
  .next (s.request everyMode fun s => s.restarted.done)

/-- The store over a power-on reset (R168, R169, R172): contents, counts and frozen marks kept, conditions
FROZEN_GOOD and classes CLEAN. A program cut short leaves each byte old or ANDed, which is a free value (log 10). -/
def State.storeKept (s : State) : Store :=
  { State.reset.ts with
    mem := match s.ts.op with
      | some (.program g offset data) =>
        s.ts.mem.andTorn (storeAddress g offset) data (Config.tornByteKeepsOld s.fresh) 0
      | _ => s.ts.mem
    segments := s.ts.segments.map fun p => (p.1, { p.2 with condition := .good, lastClass := .clean }) }

/-- POWER_ON_RESET (00_scope 5.6): every piece of state but the store takes its reset value. What the far ends have
not yet read and the commands that wait are outside the device and stay (log 17). -/
def execPowerOnReset (s : State) : Host.Outcome State Fault Refusal :=
  .next { State.reset with
    ts := s.storeKept
    fi := { State.reset.fi with out := s.fi.out }
    lk := State.reset.lk.map fun p => (p.1, { p.2 with out := ((s.slot p.1).map (·.out)).getD [] })
    fresh := s.fresh + 1
    pending := s.pending }

end Sys2Proof.Machine
end

