-- ==== Sys2Proof/Machine/Dispatch.lean ====
section
/-! DEFINITION. Each command to its meaning. -/

namespace Sys2Proof.Machine

def exec (i : Instr) (s : State) : Host.Outcome State Fault Refusal :=
  match i with
  | .powerOnReset => Sys2Proof.Machine.execPowerOnReset s
  | .selectFall => Sys2Proof.Machine.execSelectFall s
  | .partialFrameDiscard => Sys2Proof.Machine.execPartialFrameDiscard s
  | .badFrame frame => Sys2Proof.Machine.execBadFrame frame s
  | .transactionEnd => Sys2Proof.Machine.execTransactionEnd s
  | .identify => Sys2Proof.Machine.execIdentify s
  | .status => Sys2Proof.Machine.execStatus s
  | .start => Sys2Proof.Machine.execStart s
  | .restart => Sys2Proof.Machine.execRestart s
  | .topoProgram segment offset data => Sys2Proof.Machine.execTopoProgram segment offset data s
  | .topoFreeze segment => Sys2Proof.Machine.execTopoFreeze segment s
  | .topoRead segment offset count => Sys2Proof.Machine.execTopoRead segment offset count s
  | .topoStatus segment => Sys2Proof.Machine.execTopoStatus segment s
  | .setRoute route options => Sys2Proof.Machine.execSetRoute route options s
  | .cancelRoute route => Sys2Proof.Machine.execCancelRoute route s
  | .reclear route => Sys2Proof.Machine.execReclear route s
  | .timedRelease route => Sys2Proof.Machine.execTimedRelease route s
  | .movePoints element position => Sys2Proof.Machine.execMovePoints element position s
  | .block element => Sys2Proof.Machine.execBlock element s
  | .unblock element => Sys2Proof.Machine.execUnblock element s
  | .queryElement element takeCapture => Sys2Proof.Machine.execQueryElement element takeCapture s
  | .queryRoute route => Sys2Proof.Machine.execQueryRoute route s
  | .queryClaim selector number => Sys2Proof.Machine.execQueryClaim selector number s
  | .queryLine line => Sys2Proof.Machine.execQueryLine line s
  | .setLinePolicy line policy => Sys2Proof.Machine.execSetLinePolicy line policy s
  | .answerOffer line decision => Sys2Proof.Machine.execAnswerOffer line decision s
  | .lineReset line => Sys2Proof.Machine.execLineReset line s
  | .linkControlReport slot port inversion => Sys2Proof.Machine.execLinkControlReport slot port inversion s
  | .linkControlEnable slot port inversion => Sys2Proof.Machine.execLinkControlEnable slot port inversion s
  | .linkControlDisable slot port inversion => Sys2Proof.Machine.execLinkControlDisable slot port inversion s
  | .linkControlMap slot port inversion => Sys2Proof.Machine.execLinkControlMap slot port inversion s
  | .readNotices => Sys2Proof.Machine.execReadNotices s
  | .setNoticeEnables enables master => Sys2Proof.Machine.execSetNoticeEnables enables master s
  | .nextOutcome => Sys2Proof.Machine.execNextOutcome s
  | .nextFault => Sys2Proof.Machine.execNextFault s
  | .readCounters clear => Sys2Proof.Machine.execReadCounters clear s
  | .topoProgramComplete => Sys2Proof.Machine.execTopoProgramComplete s
  | .topoFreezeComplete => Sys2Proof.Machine.execTopoFreezeComplete s
  | .startPassComplete => Sys2Proof.Machine.execStartPassComplete s
  | .scanTimerExpiry => Sys2Proof.Machine.execScanTimerExpiry s
  | .fieldStatusTelegram kind address value check => Sys2Proof.Machine.execFieldStatusTelegram kind address value check s
  | .fieldFramingError => Sys2Proof.Machine.execFieldFramingError s
  | .fieldCharacterGap => Sys2Proof.Machine.execFieldCharacterGap s
  | .demandTelegramBuild => Sys2Proof.Machine.execDemandTelegramBuild s
  | .supervisionTimerExpiry element => Sys2Proof.Machine.execSupervisionTimerExpiry element s
  | .throwTimerExpiry element => Sys2Proof.Machine.execThrowTimerExpiry element s
  | .provingTimerExpiry element => Sys2Proof.Machine.execProvingTimerExpiry element s
  | .returnWindowExpiry element => Sys2Proof.Machine.execReturnWindowExpiry element s
  | .refreshTimerExpiry element => Sys2Proof.Machine.execRefreshTimerExpiry element s
  | .storageTimerExpiry route => Sys2Proof.Machine.execStorageTimerExpiry route s
  | .overlapTimerExpiry slot => Sys2Proof.Machine.execOverlapTimerExpiry slot s
  | .approachHoldExpiry slot => Sys2Proof.Machine.execApproachHoldExpiry slot s
  | .timedReleaseExpiry slot => Sys2Proof.Machine.execTimedReleaseExpiry slot s
  | .askTimerExpiry line item => Sys2Proof.Machine.execAskTimerExpiry line item s
  | .sweepHoldExpiry line item => Sys2Proof.Machine.execSweepHoldExpiry line item s
  | .holdoffTimerExpiry slot => Sys2Proof.Machine.execHoldoffTimerExpiry slot s
  | .identTimerExpiry slot => Sys2Proof.Machine.execIdentTimerExpiry slot s
  | .identSendIntervalExpiry slot => Sys2Proof.Machine.execIdentSendIntervalExpiry slot s
  | .silenceTimerExpiry slot => Sys2Proof.Machine.execSilenceTimerExpiry slot s
  | .imageTimerExpiry slot => Sys2Proof.Machine.execImageTimerExpiry slot s
  | .linkTelegramSend slot => Sys2Proof.Machine.execLinkTelegramSend slot s
  | .huntCharacter port c => Sys2Proof.Machine.execHuntCharacter port c s
  | .linkStrayCharacter port c => Sys2Proof.Machine.execLinkStrayCharacter port c s
  | .linkTelegramRejected port chars => Sys2Proof.Machine.execLinkTelegramRejected port chars s
  | .identReceived port sequence lineIndex sender addressee level lineCount flags => Sys2Proof.Machine.execIdentReceived port sequence lineIndex sender addressee level lineCount flags s
  | .lineImageReceived port sequence lineIndex occupancy token items => Sys2Proof.Machine.execLineImageReceived port sequence lineIndex occupancy token items s
  | .dirAskReceived port sequence lineIndex word => Sys2Proof.Machine.execDirAskReceived port sequence lineIndex word s
  | .dirYieldReceived port sequence lineIndex => Sys2Proof.Machine.execDirYieldReceived port sequence lineIndex s
  | .dirRefuseReceived port sequence lineIndex reason => Sys2Proof.Machine.execDirRefuseReceived port sequence lineIndex reason s
  | .offerReceived port sequence lineIndex offer => Sys2Proof.Machine.execOfferReceived port sequence lineIndex offer s
  | .acceptReceived port sequence lineIndex offer => Sys2Proof.Machine.execAcceptReceived port sequence lineIndex offer s
  | .declineReceived port sequence lineIndex offer reason => Sys2Proof.Machine.execDeclineReceived port sequence lineIndex offer reason s
  | .withdrawReceived port sequence lineIndex offer => Sys2Proof.Machine.execWithdrawReceived port sequence lineIndex offer s
  | .passedReceived port sequence lineIndex offer => Sys2Proof.Machine.execPassedReceived port sequence lineIndex offer s
  | .flankAskReceived port sequence lineIndex item ask => Sys2Proof.Machine.execFlankAskReceived port sequence lineIndex item ask s
  | .flankGrantReceived port sequence lineIndex item ask satisfaction => Sys2Proof.Machine.execFlankGrantReceived port sequence lineIndex item ask satisfaction s
  | .flankDenyReceived port sequence lineIndex item ask reason => Sys2Proof.Machine.execFlankDenyReceived port sequence lineIndex item ask reason s
  | .flankFreeReceived port sequence lineIndex item ask sweep => Sys2Proof.Machine.execFlankFreeReceived port sequence lineIndex item ask sweep s
  | .askDeadlineExpiry line => Sys2Proof.Machine.execAskDeadlineExpiry line s
  | .offerDeadlineExpiry line => Sys2Proof.Machine.execOfferDeadlineExpiry line s
  | .hostDeadlineExpiry line => Sys2Proof.Machine.execHostDeadlineExpiry line s
  | .lineResetExpiry line => Sys2Proof.Machine.execLineResetExpiry line s

end Sys2Proof.Machine
end

