-- ==== Sys2Proof/Machine/Time.lean ====
section
/-! DEFINITION. One unit of the time base (00_scope 5.1), which is what a step does when no command waits (log 1): every
running timer counts down by one tenth, and the expiry commands of those that have run out are put in the queue. -/

namespace Sys2Proof.Machine

/-- A timer after one tenth. -/
def counted : Timer → Timer
  | some (n + 1) => some n
  | t => t

def Body.ticked : Body → Body
  | .sect b => .sect { b with supervision := counted b.supervision }
  | .points b =>
    .points { b with throwTimer := counted b.throwTimer, supervision := counted b.supervision,
                     refresh := counted b.refresh }
  | .signal b =>
    .signal { b with proving := counted b.proving, returnWindow := counted b.returnWindow,
                     supervision := counted b.supervision, refresh := counted b.refresh }
  | b => b

def RouteRecord.ticked (r : RouteRecord) : RouteRecord :=
  { r with overlapTimer := counted r.overlapTimer, holdTimer := counted r.holdTimer }

def RemoteItem.ticked (r : RemoteItem) : RemoteItem :=
  { r with askTimer := counted r.askTimer, sweepHold := counted r.sweepHold }

/-- The link timers; the hold-off timer runs in OPERATING and HALTED only (R132). -/
def LinkSlot.ticked (live : Bool) (k : LinkSlot) : LinkSlot :=
  { k with holdoff := if live then counted k.holdoff else k.holdoff, identTimer := counted k.identTimer,
           sendInterval := counted k.sendInterval, silence := counted k.silence, image := counted k.image }

def Line.ticked (r : Line) : Line :=
  { r with
    ask := r.ask.map fun a => { a with deadline := counted a.deadline }
    outOffer := r.outOffer.map fun o => { o with deadline := counted o.deadline }
    inOffer := r.inOffer.map fun o => { o with deadline := counted o.deadline }
    resetTimer := counted r.resetTimer }

/-- Every record of a table changed by `f`. -/
def Table.mapAll {α : Type} (t : Table α) (f : α → α) : Table α := t.map fun p => (p.1, f p.2)

/-- Every timer counted down by one tenth. -/
def State.counted (s : State) : State :=
  let live := s.mode = .operating ∨ s.mode = .halted
  { s with
    ts := { s.ts with scanTimer := Machine.counted s.ts.scanTimer }
    es := s.es.mapAll fun r => { r with body := r.body.ticked }
    rse := { s.rse with queue := s.rse.queue.map fun q => { q with timer := Machine.counted q.timer } }
    rsv := s.rsv.mapAll RouteRecord.ticked
    fu := { s.fu with items := s.fu.items.mapAll RemoteItem.ticked }
    lk := s.lk.mapAll (LinkSlot.ticked live)
    bu := s.bu.mapAll Line.ticked }

/-- The command `c` where a timer has run out. -/
def whenDue (t : Timer) (c : Instr) : List Instr := if due t then [c] else []

def Body.expiries (e : Nat) : Body → List Instr
  | .sect b => whenDue b.supervision (.supervisionTimerExpiry e)
  | .points b =>
    whenDue b.supervision (.supervisionTimerExpiry e) ++ whenDue b.throwTimer (.throwTimerExpiry e)
      ++ whenDue b.refresh (.refreshTimerExpiry e)
  | .signal b =>
    whenDue b.supervision (.supervisionTimerExpiry e) ++ whenDue b.proving (.provingTimerExpiry e)
      ++ whenDue b.returnWindow (.returnWindowExpiry e) ++ whenDue b.refresh (.refreshTimerExpiry e)
  | _ => []

def RouteRecord.expiries (n : Nat) (r : RouteRecord) : List Instr :=
  whenDue r.overlapTimer (.overlapTimerExpiry n)
    ++ (match r.state with
        | .approachHold => whenDue r.holdTimer (.approachHoldExpiry n)
        | .timedRelease => whenDue r.holdTimer (.timedReleaseExpiry n)
        | _ => [])

def LinkSlot.expiries (n : Nat) (k : LinkSlot) : List Instr :=
  whenDue k.holdoff (.holdoffTimerExpiry n) ++ whenDue k.identTimer (.identTimerExpiry n)
    ++ whenDue k.sendInterval (.identSendIntervalExpiry n) ++ whenDue k.silence (.silenceTimerExpiry n)
    ++ whenDue k.image (.imageTimerExpiry n)

def Line.expiries (l : Nat) (r : Line) : List Instr :=
  whenDue (r.ask.bind (·.deadline)) (.askDeadlineExpiry l) ++ whenDue (r.outOffer.bind (·.deadline)) (.offerDeadlineExpiry l)
    ++ whenDue (r.inOffer.bind (·.deadline)) (.hostDeadlineExpiry l) ++ whenDue r.resetTimer (.lineResetExpiry l)

/-- The expiries due, in a fixed order (log 1). -/
def State.expiries (s : State) : List Instr :=
  whenDue s.ts.scanTimer .scanTimerExpiry
    ++ s.es.flatMap (fun p => p.2.body.expiries p.1)
    ++ s.rse.queue.flatMap (fun q => whenDue q.timer (.storageTimerExpiry q.route))
    ++ s.rsv.flatMap (fun p => p.2.expiries p.1)
    ++ s.fu.items.flatMap (fun p =>
        whenDue p.2.askTimer (.askTimerExpiry (p.1 / 8) (p.1 % 8))
          ++ whenDue p.2.sweepHold (.sweepHoldExpiry (p.1 / 8) (p.1 % 8)))
    ++ s.lk.flatMap (fun p => p.2.expiries p.1)
    ++ s.bu.flatMap (fun p => p.2.expiries p.1)

/-- One unit of the time base. -/
def State.tick (s : State) : State := { s.counted with pending := s.counted.expiries }

end Sys2Proof.Machine
end

