-- ==== Sys2Proof/WellFormed.lean ====
section
/-! DEFINITION. Which commands are well formed: the identifiers lie in the ranges of 00_scope 5.2 and the
lists have the lengths R182, R185 and R130 allow. Bytes and words of a request are not bounded here: a
value out of its set is answered by the request's own rule. -/

namespace Sys2Proof

/-- A complete frame has a kind, a length, that many parameter bytes and two CRC bytes (R182). -/
def frameComplete (frame : List Byte) : Bool :=
  match frame with
  | _ :: len :: rest => rest.length == len.toNat + 2
  | _ => false

/-- The check on a command's operands. -/
def Instr.wellFormed (c : Instr) : Bool :=
  match c with
  | .powerOnReset | .selectFall | .partialFrameDiscard | .transactionEnd => true
  | .badFrame frame => frameComplete frame
  | .identify | .status | .start | .restart => true
  | .topoProgram _ _ data => data.length ≤ 247
  | .topoFreeze _ | .topoRead _ _ _ | .topoStatus _ => true
  | .setRoute _ _ | .cancelRoute _ | .reclear _ | .timedRelease _ => true
  | .movePoints _ _ | .block _ | .unblock _ | .queryElement _ _ => true
  | .queryRoute _ | .queryClaim _ _ | .queryLine _ => true
  | .setLinePolicy _ _ | .answerOffer _ _ | .lineReset _ => true
  | .linkControlReport _ _ _ | .linkControlEnable _ _ _ => true
  | .linkControlDisable _ _ _ | .linkControlMap _ _ _ => true
  | .readNotices | .setNoticeEnables _ _ | .nextOutcome | .nextFault | .readCounters _ => true
  | .topoProgramComplete | .topoFreezeComplete | .startPassComplete | .scanTimerExpiry => true
  | .fieldStatusTelegram _ _ _ _ | .fieldFramingError | .fieldCharacterGap | .demandTelegramBuild => true
  | .supervisionTimerExpiry e | .throwTimerExpiry e | .provingTimerExpiry e => e < Config.elements
  | .returnWindowExpiry e | .refreshTimerExpiry e => e < Config.elements
  | .storageTimerExpiry r => r < Config.routes
  | .overlapTimerExpiry n | .approachHoldExpiry n | .timedReleaseExpiry n => n < Config.routeSlots
  | .askTimerExpiry l k | .sweepHoldExpiry l k => l < Config.lines && k < Config.items
  | .holdoffTimerExpiry n | .identTimerExpiry n | .identSendIntervalExpiry n => n < Config.linkSlots
  | .silenceTimerExpiry n | .imageTimerExpiry n | .linkTelegramSend n => n < Config.linkSlots
  | .huntCharacter p _ | .linkStrayCharacter p _ => p < Config.linkSlots
  | .linkTelegramRejected p _ => p < Config.linkSlots
  | .identReceived p _ _ _ _ _ _ _ => p < Config.linkSlots
  | .lineImageReceived p _ _ _ _ items => p < Config.linkSlots && items.length == 8
  | .dirAskReceived p _ _ _ | .dirYieldReceived p _ _ | .dirRefuseReceived p _ _ _ => p < Config.linkSlots
  | .offerReceived p _ _ _ | .acceptReceived p _ _ _ | .declineReceived p _ _ _ _ => p < Config.linkSlots
  | .withdrawReceived p _ _ _ | .passedReceived p _ _ _ => p < Config.linkSlots
  | .flankAskReceived p _ _ _ _ | .flankGrantReceived p _ _ _ _ _ => p < Config.linkSlots
  | .flankDenyReceived p _ _ _ _ _ | .flankFreeReceived p _ _ _ _ _ => p < Config.linkSlots
  | .askDeadlineExpiry l | .offerDeadlineExpiry l => l < Config.lines
  | .hostDeadlineExpiry l | .lineResetExpiry l => l < Config.lines

end Sys2Proof
end

