-- ==== Sys2Proof/Safety.lean ====
section
/-! DEFINITION. What it is for the device to go on, the invariants that statements are made about, and the
conditions on a state that several statements share. -/

namespace Sys2Proof

/-- The device goes on: its step answers a next state. -/
def GoesOn (s : Machine.State) : Prop := ∃ t, Machine.step s = .next t

/-- The topology store is in canonical form. -/
abbrev StoreCanonical (s : Machine.State) : Prop := s.ts.mem.wf = true

/-- The identifiers of a table rise strictly, so that each has one record. -/
abbrev Ascending {α : Type} (t : Machine.Table α) : Prop := (t.map fun p => p.1).Pairwise (· < ·)

/-- The elements and the routes have one record for each identifier, in ascending order. -/
abbrev TablesAscending (s : Machine.State) : Prop := Ascending s.es ∧ Ascending s.rse.table

/-- The neighbour slots are N0 to N3. -/
abbrev FourSlots (s : Machine.State) : Prop := (s.lk.map fun p => p.1) = [0, 1, 2, 3]

/-- No retry trigger waits: those of a command are spent at its end (log 6). -/
abbrev NoTriggerWaits (s : Machine.State) : Prop := s.rse.triggers = 0

/-- No request is stored, so that a retry trigger has no effect (R63). -/
abbrev NothingStored (s : Machine.State) : Prop := s.rse.queue = []

/-- A request frame is being received, in one of the modes. -/
abbrev Receives (s : Machine.State) (modes : List Machine.Mode) : Prop :=
  s.cp.receiver = .receiving ∧ s.mode ∈ modes

/-- The state with a response being sent: status byte and data (R183). -/
def answered (s : Machine.State) (status : Byte) (data : List Byte) : Machine.State :=
  { s with cp := { s.cp with receiver := .answering, answer := some { status := status, data := data } } }

/-- The answer REFUSED with a reason and no element (R183, R194). -/
def refused (s : Machine.State) (reason : Byte) : Machine.State := answered s 0x03 [reason, 0xFF, 0xFF]

/-- The modes in which R185 accepts a request; none for a command that is no request. -/
def requestModes (c : Instr) : Option (List Machine.Mode) :=
  match c with
  | .identify | .status | .restart | .readNotices | .readCounters _ =>
    some [.configuration, .starting, .operating, .halted]
  | .start | .topoProgram _ _ _ | .topoFreeze _ | .topoRead _ _ _ | .topoStatus _ => some [.configuration]
  | .setRoute _ _ | .cancelRoute _ | .reclear _ | .timedRelease _ | .movePoints _ _ | .block _ | .unblock _ =>
    some [.operating]
  | .setLinePolicy _ _ | .answerOffer _ _ | .lineReset _ => some [.operating]
  | .linkControlEnable _ _ _ | .linkControlDisable _ _ _ | .linkControlMap _ _ _ => some [.operating]
  | .queryElement _ _ | .queryRoute _ | .queryClaim _ _ | .queryLine _ | .linkControlReport _ _ _ =>
    some [.operating, .halted]
  | .nextOutcome | .nextFault => some [.operating, .halted]
  | .setNoticeEnables _ _ => some [.configuration, .starting, .operating]
  | _ => none

/-- A telegram on a port reaches line `l` of the slot `n`, record `k`, in UP: it is the first since entry to UP or the
successor of the last (R127, R138, R139). -/
abbrev Carries (s : Machine.State) (port : Nat) (sequence index : Byte) (n l : Nat) (k : Machine.LinkSlot) : Prop :=
  s.slotOfPort port = some n ∧ s.slot n = some k ∧ k.link = .up ∧ k.lines[index.toNat]? = some l
    ∧ (k.rxSequence.all fun last => sequence == last + 1) = true

/-- A field telegram whose check is valid selects element `e`, with its record (R23, R26). -/
abbrev Selects (s : Machine.State) (kind : Byte) (address : Word) (value check : Byte) (e : Nat) : Prop :=
  check = ~~~(kind ^^^ address.extractLsb' 8 8 ^^^ address.extractLsb' 0 8 ^^^ value)
    ∧ Machine.selectElement s.fi.map address = some e ∧ e ≤ 511 ∧ (s.element e).isSome
    ∧ (s.mode = .operating ∨ s.mode = .halted)

/-- A timer after one tenth (00_scope 5.1): one that runs is one less, one that has run out or is stopped stays. -/
abbrev CountsDown (before after : Timer) : Prop :=
  (∀ n, before = some (n + 1) → after = some n) ∧ (before = some 0 → after = some 0)
    ∧ (before = none → after = none)

/-- The first of a list that a condition does not hold of. -/
def FirstFailing {α : Type} (xs : List α) (holds : α → Prop) (x : α) : Prop :=
  ∃ pre post, xs = pre ++ x :: post ∧ (∀ y, y ∈ pre → holds y) ∧ ¬ holds x

/-- The timer that an expiry command names has run out; no other command is an expiry. -/
def ExpiryDue (s : Machine.State) (c : Instr) : Prop :=
  match c with
  | .scanTimerExpiry => s.ts.scanTimer = some 0
  | .supervisionTimerExpiry e => ∃ r, (e, r) ∈ s.es ∧ ((∃ b, r.body = .sect b ∧ b.supervision = some 0)
      ∨ (∃ b, r.body = .points b ∧ b.supervision = some 0) ∨ ∃ b, r.body = .signal b ∧ b.supervision = some 0)
  | .throwTimerExpiry e => ∃ r b, (e, r) ∈ s.es ∧ r.body = .points b ∧ b.throwTimer = some 0
  | .provingTimerExpiry e => ∃ r b, (e, r) ∈ s.es ∧ r.body = .signal b ∧ b.proving = some 0
  | .returnWindowExpiry e => ∃ r b, (e, r) ∈ s.es ∧ r.body = .signal b ∧ b.returnWindow = some 0
  | .refreshTimerExpiry e => ∃ r, (e, r) ∈ s.es ∧ ((∃ b, r.body = .points b ∧ b.refresh = some 0)
      ∨ ∃ b, r.body = .signal b ∧ b.refresh = some 0)
  | .storageTimerExpiry n => ∃ q, q ∈ s.rse.queue ∧ q.route = n ∧ q.timer = some 0
  | .overlapTimerExpiry n => ∃ r, (n, r) ∈ s.rsv ∧ r.overlapTimer = some 0
  | .approachHoldExpiry n => ∃ r, (n, r) ∈ s.rsv ∧ r.state = .approachHold ∧ r.holdTimer = some 0
  | .timedReleaseExpiry n => ∃ r, (n, r) ∈ s.rsv ∧ r.state = .timedRelease ∧ r.holdTimer = some 0
  | .askTimerExpiry l k => ∃ it, k < 8 ∧ (8 * l + k, it) ∈ s.fu.items ∧ it.askTimer = some 0
  | .sweepHoldExpiry l k => ∃ it, k < 8 ∧ (8 * l + k, it) ∈ s.fu.items ∧ it.sweepHold = some 0
  | .holdoffTimerExpiry n => ∃ k, (n, k) ∈ s.lk ∧ k.holdoff = some 0
  | .identTimerExpiry n => ∃ k, (n, k) ∈ s.lk ∧ k.identTimer = some 0
  | .identSendIntervalExpiry n => ∃ k, (n, k) ∈ s.lk ∧ k.sendInterval = some 0
  | .silenceTimerExpiry n => ∃ k, (n, k) ∈ s.lk ∧ k.silence = some 0
  | .imageTimerExpiry n => ∃ k, (n, k) ∈ s.lk ∧ k.image = some 0
  | .askDeadlineExpiry l => ∃ r a, (l, r) ∈ s.bu ∧ r.ask = some a ∧ a.deadline = some 0
  | .offerDeadlineExpiry l => ∃ r o, (l, r) ∈ s.bu ∧ r.outOffer = some o ∧ o.deadline = some 0
  | .hostDeadlineExpiry l => ∃ r o, (l, r) ∈ s.bu ∧ r.inOffer = some o ∧ o.deadline = some 0
  | .lineResetExpiry l => ∃ r, (l, r) ∈ s.bu ∧ r.resetTimer = some 0
  | _ => False

/-- The command hands RSE one retry trigger or more: what it answers is the state that its own effect reaches, in which
the stored requests are as before, after one examination pass for each trigger (R63, R64). -/
def RetriesAfter (c : Instr) (s : Machine.State) (reached : Machine.State → Prop) : Prop :=
  ∃ u n, 1 ≤ n ∧ reached u ∧ u.rse.queue = s.rse.queue ∧ NoTriggerWaits u ∧ u.mode = s.mode
    ∧ Machine.exec c s = .next (Nat.repeat Machine.State.pass n u).spent

/-! What the checks of R51 to R54 ask for. -/

/-- R51: the route, its flank groups and its line are available, its exit, beyond section and approach in service. -/
def RouteAvailable (s : Machine.State) (r : Machine.RouteEntry) (d : Machine.Definition) : Prop :=
  r.available = true ∧ (∀ f ∈ d.flanks, ∀ g, s.fu.groups.find f.1 = some g → g.available = true)
    ∧ (∀ l x, d.line = some l → s.line l = some x → x.withdrawn = false)
    ∧ ∀ e x, e = d.exit ∨ d.beyond = some e ∨ e ∈ d.approach → s.element e = some x → x.withdrawn = false

/-- R52: the entry signal is locked by nobody and not held at STOP by a claim. -/
def EntryFree (s : Machine.State) (d : Machine.Definition) : Prop :=
  s.lockOf d.entry = none ∧ ∀ n c, s.claimOn d.entry = some (n, c) → c.demand ≠ .signalStop

/-- R52: the element is neither withdrawn nor blocked. -/
def InService (s : Machine.State) (e : Nat) : Prop :=
  ∀ x, s.element e = some x → x.withdrawn = false ∧ x.blocked = false

/-- R53: the element is locked by nobody, and points are not moving. -/
def Unlocked (s : Machine.State) (x : Machine.PathEntry) : Prop :=
  s.lockOf x.element = none ∧ (x.position.isSome → ∀ b, s.pointsAt x.element = some b → b.moving = false)

/-- R53: a section is CLEAR. -/
def SectionIsClear (s : Machine.State) (x : Machine.PathEntry) : Prop :=
  x.position = none → s.occupancy x.element = .clear

/-- R53: no claim holds the element in a state that the route contradicts. -/
def Unclaimed (s : Machine.State) (x : Machine.PathEntry) : Prop :=
  ∀ n c, s.claimOn x.element = some (n, c) → c.demand ≠
    match x.position with
    | some .normal => .pointsReverse
    | some .reverse => .pointsNormal
    | none => .sectionClear

/-- R54: the slot of a boundary route's line is UP. -/
def LinkReady (s : Machine.State) (d : Machine.Definition) : Prop := ∀ l, d.line = some l → s.lineUp l = true

/-- The LOCAL alternatives among the choices made (R54). -/
def localChoices (xs : List (Nat × Machine.Alternative)) : List (Nat × Machine.Demand) :=
  xs.filterMap fun x => match x.2 with
    | .localAlt e d => some (e, d)
    | .remoteAlt _ _ => none

/-- No other record is of the same route (R61). -/
def OnlyRecordOf (s : Machine.State) (slot : Nat) (r : Machine.RouteRecord) : Prop :=
  ∀ n x, s.routeRecord n = some x → x.route = r.route → n = slot

/-- The route's table entry has the outcome, not yet read (R66). -/
def OutcomeWritten (s t : Machine.State) (route : Nat) (o : Machine.RouteOutcome) : Prop :=
  ∀ x, s.rse.table.find route = some x →
    t.rse.table.find route = some { x with outcome := some o, unread := true }

/-! What the clearing conditions of R95 look at, in list order. -/

/-- The elements of a record with the role each is locked in: the entry signal, the remaining steps, and the overlap while
it is not RELEASED. -/
def recordElements (r : Machine.RouteRecord) : List (Nat × Machine.Role) :=
  (r.definition.entry :: r.steps.flatMap fun st => st.sect :: st.points.map (·.1)).map (·, .path)
    ++ if r.overlapStatus = .released then [] else r.definition.overlap.map fun x => (x.element, .overlap)

/-- The POINTS entries of a record with their required positions. -/
def recordPoints (r : Machine.RouteRecord) : List (Nat × Machine.Position) :=
  r.steps.flatMap (·.points) ++ if r.overlapStatus = .released then []
    else r.definition.overlap.filterMap fun x => x.position.map fun p => (x.element, p)

/-- The SECTION entries of a record. -/
def recordSections (r : Machine.RouteRecord) : List Nat :=
  r.steps.map (·.sect) ++ if r.overlapStatus = .released then []
    else (r.definition.overlap.filter fun x => x.position.isNone).map (·.element)

/-- R95, condition 5: a flank reference is RELEASED, or HELD and satisfied. -/
def Protected (s : Machine.State) (f : Machine.FlankRef) : Prop :=
  f.state = .released ∨ (f.state = .held ∧ s.refSatisfied f = true)

/-- The elements that a record holds locked (R94, R115): its entry signal, those of its remaining steps, and those of
its overlap while that is not RELEASED. -/
def HeldBy (r : Machine.RouteRecord) (e : Nat) : Prop :=
  e = r.definition.entry ∨ (∃ st ∈ r.steps, e = st.sect ∨ e ∈ st.points.map (·.1))
    ∨ (r.overlapStatus ≠ .released ∧ e ∈ r.definition.overlap.map (·.element))

/-- The record in a slot, if there is one, has failed for its handover: it is gone, its route has the outcome FAILED with
the reason and the exit, and nothing it held is locked to the slot (R58, R60, R150, R153). -/
def HandoverFailed (s t : Machine.State) (slot : Nat) (reason : Machine.Reason) : Prop :=
  t.routeRecord slot = none ∧ ∀ q, s.routeRecord slot = some q →
    OutcomeWritten s t q.route (.failed reason (some q.definition.exit))
    ∧ ∀ e, HeldBy q e → t.lockOf e ≠ some (.route slot .path) ∧ t.lockOf e ≠ some (.route slot .overlap)

/-! Replacement (R96, R100). -/

/-- The record `q` in a slot has been replaced (R100): STOP is demanded of its entry signal, it is in LOCKED with the
reason and the element, ROUTE_REPLACED is latched, and from CLEARING with PROCEED shown the shown-proceed flag is set. -/
def Replaced (s t : Machine.State) (slot : Nat) (q : Machine.RouteRecord) (reason : Machine.Reason) (e : Nat) : Prop :=
  t.routeRecord slot = some { q with
      state := .locked, replaced := some (reason, e),
      shownProceed := q.shownProceed || (q.state == .clearing && s.shown q.definition.entry == .proceed) }
    ∧ (∀ b, t.signalAt q.definition.entry = some b → b.demanded = .stop) ∧ t.cp.latches.getLsbD 1 = true

/-- The record `q` in a slot is in CLEARING or CLEARED with every clearing condition holding, and its first section is not
OCCUPIED behind a signal that shows PROCEED in CLEARING, whose replacement is the train's entry (R103). -/
def StandsClear (s : Machine.State) (slot : Nat) (q : Machine.RouteRecord) : Prop :=
  s.routeRecord slot = some q ∧ (q.state = .clearing ∨ q.state = .cleared) ∧ s.conditionFailure slot q = none
    ∧ (q.state = .clearing → s.shown q.definition.entry = .proceed →
        s.occupancy q.definition.firstSection ≠ .occupied)

/-- The record holds a flank reference that has chosen the alternative. -/
def HoldsBy (s : Machine.State) (q : Machine.RouteRecord) (a : Machine.Alternative) : Prop :=
  ∃ f, f ∈ q.flanks ∧ f.state = .held ∧ s.chosen f = some a

/-- The record in a slot holds a flank reference by the claim `c` on an element, with a use of its own (R71, R72). -/
def HoldsClaim (s : Machine.State) (slot : Nat) (q : Machine.RouteRecord) (e : Nat) (c : Machine.Claim) : Prop :=
  (∃ d, HoldsBy s q (.localAlt e d)) ∧ (∃ n, s.claimOn e = some (n, c)) ∧ ∃ u, .route slot u ∈ c.holders

/-- The record has been replaced for a flank reference that it holds, with the tied element. -/
def FlankIsLost (s t : Machine.State) (slot : Nat) (q : Machine.RouteRecord) : Prop :=
  ∃ f, f ∈ q.flanks ∧ f.state = .held ∧ Replaced s t slot q .flankLost (q.definition.tiedElement f.tied)

/-- The record of a boundary route has been replaced with a reason of its handover and the exit; a flank reference lost in
the same event, which it must then hold, comes before it (R95). -/
def HandoverIsLost (s t : Machine.State) (slot : Nat) (q : Machine.RouteRecord) (reason : Machine.Reason) : Prop :=
  (FlankIsLost s t slot q ∨ Replaced s t slot q reason q.definition.exit)
    ∧ ((∀ f, f ∈ q.flanks → f.state ≠ .held) → Replaced s t slot q reason q.definition.exit)

/-- What a command that writes detection `d` for points `e` does to a record that stands clear: it is replaced where it
requires the points in another position, and where it holds a flank reference by a claim on them that is no longer met. -/
def DetectionReplaces (s : Machine.State) (c : Instr) (e : Nat) (d : Machine.Detection) (slot : Nat)
    (q : Machine.RouteRecord) : Prop :=
  (∀ p, (e, p) ∈ recordPoints q → d ≠ p.detection →
    ∃ t, Machine.exec c s = .next t ∧ Replaced s t slot q .notDetected e)
  ∧ ∀ x p, HoldsClaim s slot q e x → x.demand.position = some p → s.detection e = p.detection → d ≠ p.detection →
    (∀ p', (e, p') ∉ recordPoints q) → ∃ t, Machine.exec c s = .next t ∧ FlankIsLost s t slot q

/-- The same for occupancy `o` of section `e`: a section of the record that is no longer CLEAR replaces it, from CLEARING
behind a signal that shows PROCEED on to IN_USE where the train is in the first section (R103). Where PROCEED is not shown
the record stays in LOCKED, though its shown-proceed flag may have been set earlier (log 19). The entry into CLEARED is no
replacement. -/
def OccupancyReplaces (s : Machine.State) (c : Instr) (e : Nat) (o : Machine.Occupancy) (slot : Nat)
    (q : Machine.RouteRecord) : Prop :=
  o ≠ .clear →
  (e ∈ recordSections q →
    (e = q.definition.firstSection → o = .occupied → q.state = .clearing ∧ s.shown q.definition.entry ≠ .proceed) →
    ∃ t, Machine.exec c s = .next t ∧ Replaced s t slot q .notClear e)
  ∧ (e ∈ recordSections q → e = q.definition.firstSection → o = .occupied → q.state = .clearing →
    s.shown q.definition.entry = .proceed → q.steps ≠ [] →
    ∃ t q', Machine.exec c s = .next t ∧ t.routeRecord slot = some q' ∧ q'.state = .inUse
      ∧ q'.replaced = some (.notClear, e) ∧ q'.frontSeen = true ∧ q'.shownProceed = true
      ∧ t.cp.latches.getLsbD 1 = true)
  ∧ ∀ x, HoldsClaim s slot q e x → x.demand = .sectionClear → s.occupancy e = .clear → e ∉ recordSections q →
    e ≠ q.definition.firstSection → ∃ t, Machine.exec c s = .next t ∧ FlankIsLost s t slot q

/-- The same for an aspect of signal `e`, other than the entry signal, that is neither STOP nor DARK. -/
def AspectReplaces (s : Machine.State) (c : Instr) (e : Nat) (slot : Nat) (q : Machine.RouteRecord) : Prop :=
  ∀ x, HoldsClaim s slot q e x → x.demand = .signalStop → s.shown e = .stop ∨ s.shown e = .dark →
    e ≠ q.definition.entry → ∃ t, Machine.exec c s = .next t ∧ FlankIsLost s t slot q

/-! Asks of a neighbour. -/

/-- A holder list after an ask repeated by line `l` for item `k`: the holder has the new number and a grant state (R88). -/
def askedAgain (hs : List Machine.Holder) (l k : Nat) (ask : Byte) (g : Machine.GrantState) : List Machine.Holder :=
  hs.map fun h => match h with
    | .neighbour l' k' _ _ => if l' = l ∧ k' = k then .neighbour l k ask g else h
    | .route _ _ => h

/-- A transmit list after payloads for a line and then the line's image, which stands in a list once (R90, R131). -/
def thenImage (given : List Machine.Telegram) (l : Nat) (sent : List Machine.Payload) : List Machine.Telegram :=
  let all := given ++ sent.map fun p => { line := l, payload := p }
  if { line := l, payload := .lineImage } ∈ all then all else all ++ [{ line := l, payload := .lineImage }]

/-- Points that a claim wants in another position than they are in are demanded there, which starts or continues a throw
(R77). -/
def DemandedForClaim (s t : Machine.State) (e : Nat) (d : Machine.Demand) : Prop :=
  ∀ p b, d.position = some p → s.pointsAt e = some b → b.detection ≠ p.detection →
    (t.fi.demands.find e).isSome ∧ ∃ b', t.pointsAt e = some b' ∧ b'.demanded = some p ∧ b'.moving = true

/-- A command that gives up the ask that is out for item `k` of a line, with a last reason: FLANK_DENY with the ask number
(R80), or the expiry of the ask timer (R81). -/
def GivesUpAsk (s : Machine.State) (c : Instr) (l k : Nat) (code : Byte) : Prop :=
  k < 8 ∧ (s.item l k).state = .asked
    ∧ ((c = .askTimerExpiry l k ∧ (s.item l k).askTimer = some 0 ∧ code = 0x6F)
      ∨ ∃ port n sequence index x, c = .flankDenyReceived port sequence index (BitVec.ofNat 8 k) (s.item l k).ask code
          ∧ Carries s port sequence index n l x)

/-! Errors of a link (R138, R139). -/

/-- Port, sequence number and line index of a telegram for a line; none for another command. -/
def lineTelegram (c : Instr) : Option (Nat × Byte × Byte) :=
  match c with
  | .lineImageReceived p n i _ _ _ | .dirAskReceived p n i _ | .dirYieldReceived p n i | .dirRefuseReceived p n i _
  | .offerReceived p n i _ | .acceptReceived p n i _ | .declineReceived p n i _ _ | .withdrawReceived p n i _
  | .passedReceived p n i _ | .flankAskReceived p n i _ _ | .flankGrantReceived p n i _ _ _
  | .flankDenyReceived p n i _ _ _ | .flankFreeReceived p n i _ _ _ => some (p, n, i)
  | _ => none

/-- The error for which the data characters between OPEN and CLOSE are discarded (R138, cases 3 to 6), with the sequence
number that a telegram with a valid check has. -/
def DiscardedFor (bytes : List Byte) (error : Machine.Reason) (sequence : Option Byte) : Prop :=
  (error = .length ∧ sequence = none ∧ (bytes.length < 6 ∨ 16 < bytes.length
    ∨ ∃ len, bytes[3]? = some len ∧ bytes.length ≠ len.toNat + 6))
  ∨ ∃ kind number index len payload check, bytes = kind :: number :: index :: len :: (payload ++ check)
    ∧ payload.length = len.toNat ∧ payload.length ≤ 10 ∧ check.length = 2
    ∧ ((error = .check ∧ sequence = none ∧ check ≠ Word.bytes (crc16 (kind :: number :: index :: len :: payload)))
      ∨ (check = Word.bytes (crc16 (kind :: number :: index :: len :: payload)) ∧ sequence = some number
        ∧ ((error = .unexpected ∧ (kind = 0 ∨ 14 < kind.toNat))
          ∨ (error = .length ∧ kind ≠ 0 ∧ kind.toNat ≤ 14
            ∧ ([7, 10, 2, 0, 1, 1, 1, 2, 1, 1, 2, 3, 3, 3] : List Nat)[kind.toNat - 1]? ≠ some len.toNat))))

/-- A slot whose error level has reached its threshold has dropped, with reason ERRORS (R141, R143). -/
def DroppedForErrors (t : Machine.State) (n : Nat) (k : Machine.LinkSlot) (error : Machine.Reason) : Prop :=
  ∃ k', t.slot n = some k' ∧ k'.link = .holdoff ∧ k'.holdoff = some 20 ∧ k'.lastDrop = some .errors
    ∧ k'.drops = min 65535 (k.drops + 1) ∧ k'.errors = min 65535 (k.errors + 1) ∧ k'.lastError = some error
    ∧ k'.level = 0 ∧ k'.goodRun = 0 ∧ k'.silence = none ∧ k'.image = none ∧ k'.transmit = []
    ∧ t.cp.latches.getLsbD 5 = true

/-! Frames (R184, R185). -/

/-- A number that is the parameter length of a kind of the catalogue. -/
def ParameterLength (kind length : Nat) : Prop :=
  (kind ∈ [0x01, 0x02, 0x03, 0x04, 0x18, 0x1A, 0x1B] ∧ length = 0)
  ∨ (kind ∈ [0x06, 0x08, 0x13, 0x16, 0x1C] ∧ length = 1)
  ∨ (kind ∈ [0x0A, 0x0B, 0x0C, 0x0E, 0x0F, 0x11, 0x14, 0x15] ∧ length = 2)
  ∨ (kind ∈ [0x09, 0x0D, 0x10, 0x12, 0x19] ∧ length = 3)
  ∨ (kind ∈ [0x07, 0x17] ∧ length = 4)
  ∨ (kind = 0x05 ∧ 3 ≤ length ∧ length ≤ 250)

/-! The start of operation (R22). -/

/-- A record as a START creates it (R8, R22, R29). -/
def FreshElement (x : Machine.Element) : Prop :=
  x.blocked = false ∧ x.lock = none ∧ x.claim = none ∧ x.faults = {} ∧ (x.withdrawn = true ↔ x.body = .none)
    ∧ (∀ b, x.body = .sect b → b.occupancy = .unknown ∧ b.supervision = some (max 5 (min 50 b.timeout.toNat)))
    ∧ (∀ b, x.body = .points b → b.detection = .unknown ∧ b.demanded = none ∧ b.moving = false ∧ b.throwTimer = none
        ∧ b.captureHeld = false ∧ b.captureValue = 0 ∧ b.captureMissed = false ∧ b.refresh = none
        ∧ b.supervision = some (max 5 (min 50 b.timeout.toNat)))
    ∧ (∀ b, x.body = .signal b → b.demanded = .stop ∧ b.shown = .unknown ∧ b.proven = false ∧ b.proving = none
        ∧ b.returnWindow = none ∧ b.refresh = none ∧ b.supervision = some (max 5 (min 50 b.timeout.toNat)))
    ∧ ∀ b, x.body = .boundary b → b.image = .unknown ∧ b.items = List.replicate 8 .unknown

/-! Invariants of operation. -/

/-- R61: at most 16 requests are stored, no route twice. -/
abbrev QueueFits (s : Machine.State) : Prop :=
  s.rse.queue.length ≤ 16 ∧ (s.rse.queue.map (·.route)).Nodup

/-- One record for each route slot, claim number, line, remote item and pending demand, in ascending order. -/
abbrev RecordsAscending (s : Machine.State) : Prop :=
  Ascending s.rsv ∧ Ascending s.fu.claims ∧ Ascending s.bu ∧ Ascending s.fu.items ∧ Ascending s.fi.demands

/-- R11, R72: a claim record has a holder, and an element's claim reference names the record of a claim on it. -/
def ClaimsAgree (s : Machine.State) : Prop :=
  (∀ n c, s.claimRecord n = some c → c.holders ≠ [])
    ∧ ∀ e x n, s.element e = some x → x.claim = some n → ∃ c, s.claimRecord n = some c ∧ c.element = e

/-- R82: only a record in SETTING or HANDOVER_WAIT has a flank reference that waits. -/
def WaitingOnlyInSetting (s : Machine.State) : Prop :=
  ∀ slot r f, s.routeRecord slot = some r → f ∈ r.flanks → f.state = .localPending ∨ f.state = .remotePending →
    r.state = .setting ∨ r.state = .handoverWait

/-- R148, R149: an ask is out exactly while the token is ASKING, and an offer is made only by an end that has the token
OUT, or had it OUT before the ask. -/
def TokensAgree (s : Machine.State) : Prop :=
  ∀ l r, s.line l = some r → (r.ask.isSome ↔ ∃ d, r.token = .asking d)
    ∧ (r.outOffer.isSome → r.token = .rest .outward ∨ r.token = .asking .outward)

/-- The record in a slot waits for the handover on a line. -/
def AwaitsHandover (s : Machine.State) (slot l : Nat) : Prop :=
  ∃ r h, s.routeRecord slot = some r ∧ r.state = .handoverWait ∧ r.handover = some h ∧ h.line = l

/-- R58, R149, R153: the route of an ask that is out or of an offer not yet answered waits for it. -/
def HandoversAgree (s : Machine.State) : Prop :=
  ∀ l r, s.line l = some r → (∀ a, r.ask = some a → AwaitsHandover s a.slot l)
    ∧ ∀ o n, r.outOffer = some o → o.state = .offered → o.slot = some n →
        AwaitsHandover s n l ∧ ∀ a, r.ask = some a → a.slot ≠ n

/-- R97: a signal is demanded PROCEED only while it is the entry signal of a record in CLEARING or CLEARED. -/
def ProceedIsHeld (s : Machine.State) : Prop :=
  ∀ e b, s.signalAt e = some b → b.demanded = .proceed →
    ∃ slot r, s.routeRecord slot = some r ∧ r.definition.entry = e ∧ (r.state = .clearing ∨ r.state = .cleared)

/-- The records, the lines and the signals agree. -/
def RoutesAgree (s : Machine.State) : Prop :=
  Ascending s.rsv ∧ WaitingOnlyInSetting s ∧ TokensAgree s ∧ HandoversAgree s ∧ ProceedIsHeld s

end Sys2Proof
end

