-- ==== Sys2Proof/Certificates/Slice0/Obligations.lean ====
section
/-! DEFINITION. The statements for the provers. A statement of a command's result has as its conclusion that the
command answers a next state. -/

open Sys2Proof Sys2Proof.Machine

/-! The queue, the time base and the invariants. -/

/-- A step takes the command at the front of the queue and runs it on the state with the rest. -/
def Obligations.StepRunsTheFrontCommand : Prop :=
  ∀ (s : State) (c : Instr) (rest : List Instr),
    step { s with pending := c :: rest } = exec c { s with pending := rest }

/-- On an empty queue one tenth passes (log 1): every timer that runs counts down by one, the hold-off timer in OPERATING
and HALTED only, the expiry of each that stands at 0 is put in the queue, and nothing else changes: an identifier without
a record stays without one, and nothing but expiries of timers that have run out is queued. -/
def Obligations.EmptyQueuePassesOneTenth : Prop :=
  ∀ s : State, s.pending = [] →
    ∃ t, step s = .next t
      ∧ t.mode = s.mode ∧ t.areaId = s.areaId ∧ t.cp = s.cp ∧ t.fi = s.fi ∧ t.fresh = s.fresh
      ∧ t.ts = { s.ts with scanTimer := t.ts.scanTimer } ∧ t.rse = { s.rse with queue := t.rse.queue }
      ∧ t.fu = { s.fu with items := t.fu.items }
      ∧ CountsDown s.ts.scanTimer t.ts.scanTimer
      ∧ (t.ts.scanTimer = some 0 → .scanTimerExpiry ∈ t.pending)
      ∧ (∀ c, c ∈ t.pending → ExpiryDue t c)
      ∧ (∀ e, s.element e = none → t.element e = none) ∧ t.rse.queue.length = s.rse.queue.length
      ∧ (∀ n, s.routeRecord n = none → t.routeRecord n = none) ∧ (∀ n, s.slot n = none → t.slot n = none)
      ∧ (∀ i, s.fu.items.find i = none → t.fu.items.find i = none) ∧ (∀ l, s.line l = none → t.line l = none)
      ∧ (∀ e r, s.element e = some r → r.body = .none → t.element e = some r)
      ∧ (∀ e r, s.element e = some r → ∃ body, t.element e = some { r with body := body })
      ∧ (∀ e b, s.boundaryAt e = some b → t.boundaryAt e = some b)
      ∧ (∀ e b, s.sectionAt e = some b → ∃ v, t.sectionAt e = some { b with supervision := v }
          ∧ CountsDown b.supervision v ∧ (v = some 0 → .supervisionTimerExpiry e ∈ t.pending))
      ∧ (∀ e b, s.pointsAt e = some b →
          ∃ v w x, t.pointsAt e = some { b with supervision := v, throwTimer := w, refresh := x }
          ∧ CountsDown b.supervision v ∧ (v = some 0 → .supervisionTimerExpiry e ∈ t.pending)
          ∧ CountsDown b.throwTimer w ∧ (w = some 0 → .throwTimerExpiry e ∈ t.pending)
          ∧ CountsDown b.refresh x ∧ (x = some 0 → .refreshTimerExpiry e ∈ t.pending))
      ∧ (∀ e b, s.signalAt e = some b →
          ∃ v w x y, t.signalAt e = some { b with supervision := v, proving := w, returnWindow := x, refresh := y }
          ∧ CountsDown b.supervision v ∧ (v = some 0 → .supervisionTimerExpiry e ∈ t.pending)
          ∧ CountsDown b.proving w ∧ (w = some 0 → .provingTimerExpiry e ∈ t.pending)
          ∧ CountsDown b.returnWindow x ∧ (x = some 0 → .returnWindowExpiry e ∈ t.pending)
          ∧ CountsDown b.refresh y ∧ (y = some 0 → .refreshTimerExpiry e ∈ t.pending))
      ∧ (∀ (i : Nat) (q : QueueEntry), s.rse.queue[i]? = some q → ∃ v, t.rse.queue[i]? = some { q with timer := v }
          ∧ CountsDown q.timer v ∧ (v = some 0 → .storageTimerExpiry q.route ∈ t.pending))
      ∧ (∀ n r, s.routeRecord n = some r →
          ∃ v w, t.routeRecord n = some { r with overlapTimer := v, holdTimer := w }
          ∧ CountsDown r.overlapTimer v ∧ (v = some 0 → .overlapTimerExpiry n ∈ t.pending) ∧ CountsDown r.holdTimer w
          ∧ (w = some 0 → r.state = .approachHold → .approachHoldExpiry n ∈ t.pending)
          ∧ (w = some 0 → r.state = .timedRelease → .timedReleaseExpiry n ∈ t.pending))
      ∧ (∀ l k it, k < 8 → s.fu.items.find (8 * l + k) = some it →
          ∃ v w, t.fu.items.find (8 * l + k) = some { it with askTimer := v, sweepHold := w }
          ∧ CountsDown it.askTimer v ∧ (v = some 0 → .askTimerExpiry l k ∈ t.pending)
          ∧ CountsDown it.sweepHold w ∧ (w = some 0 → .sweepHoldExpiry l k ∈ t.pending))
      ∧ (∀ n k, s.slot n = some k → ∃ v w x y z,
          t.slot n = some { k with holdoff := v, identTimer := w, sendInterval := x, silence := y, image := z }
          ∧ (s.mode = .operating ∨ s.mode = .halted → CountsDown k.holdoff v)
          ∧ (s.mode = .configuration ∨ s.mode = .starting → v = k.holdoff)
          ∧ (v = some 0 → .holdoffTimerExpiry n ∈ t.pending)
          ∧ CountsDown k.identTimer w ∧ (w = some 0 → .identTimerExpiry n ∈ t.pending)
          ∧ CountsDown k.sendInterval x ∧ (x = some 0 → .identSendIntervalExpiry n ∈ t.pending)
          ∧ CountsDown k.silence y ∧ (y = some 0 → .silenceTimerExpiry n ∈ t.pending)
          ∧ CountsDown k.image z ∧ (z = some 0 → .imageTimerExpiry n ∈ t.pending))
      ∧ ∀ l r, s.line l = some r →
          ∃ a o i v, t.line l = some { r with ask := a, outOffer := o, inOffer := i, resetTimer := v }
          ∧ CountsDown r.resetTimer v ∧ (v = some 0 → .lineResetExpiry l ∈ t.pending)
          ∧ (r.ask = none → a = none) ∧ (r.outOffer = none → o = none) ∧ (r.inOffer = none → i = none)
          ∧ (∀ x, r.ask = some x → ∃ w, a = some { x with deadline := w } ∧ CountsDown x.deadline w
              ∧ (w = some 0 → .askDeadlineExpiry l ∈ t.pending))
          ∧ (∀ x, r.outOffer = some x → ∃ w, o = some { x with deadline := w } ∧ CountsDown x.deadline w
              ∧ (w = some 0 → .offerDeadlineExpiry l ∈ t.pending))
          ∧ ∀ x, r.inOffer = some x → ∃ w, i = some { x with deadline := w } ∧ CountsDown x.deadline w
              ∧ (w = some 0 → .hostDeadlineExpiry l ∈ t.pending)

/-- No step of the device ends in a fault or a refusal. -/
def Obligations.EveryStepGoesOn : Prop := ∀ s : State, GoesOn s

/-- A command leaves the queue as it is. -/
def Obligations.CommandsLeaveTheQueue : Prop :=
  ∀ (c : Instr) (s t : State), exec c s = .next t → t.pending = s.pending

/-- At reset the invariants hold. -/
def Obligations.InvariantsHoldAtReset : Prop :=
  StoreCanonical State.reset ∧ TablesAscending State.reset ∧ FourSlots State.reset ∧ NoTriggerWaits State.reset
    ∧ RecordsAscending State.reset ∧ QueueFits State.reset ∧ ClaimsAgree State.reset ∧ RoutesAgree State.reset

/-- Every step keeps the canonical form of the topology store. -/
def Obligations.StoreStaysCanonical : Prop :=
  ∀ s t : State, StoreCanonical s → step s = .next t → StoreCanonical t

/-- Every step keeps one record for each element, route, route slot, claim number, line, remote item and pending demand, in
ascending identifiers, the four neighbour slots, and a queue of at most 16 stored requests with no route twice (R61). -/
def Obligations.IdentifiersStay : Prop :=
  (∀ s t : State, TablesAscending s ∧ FourSlots s → step s = .next t → TablesAscending t ∧ FourSlots t)
  ∧ (∀ s t : State, RecordsAscending s → step s = .next t → RecordsAscending t)
  ∧ ∀ s t : State, QueueFits s → step s = .next t → QueueFits t

/-- A command that starts with no retry trigger waiting leaves none: at its end it makes one examination pass over the
stored requests for each trigger it has handed (log 6). A pass takes them from the oldest to the youngest, each against
the state as it then stands: one that passes the checks leaves the queue and is taken with its own HOLD_SIGNAL; one that
fails a check that may pass with time stays in its place with the new reason and element; any other leaves with outcome
FAILED. Such a command in OPERATING is a status that makes a section CLEAR or ends an UNKNOWN, one that completes a
throw, a throw that fails, a hold or an overlap that runs out, an IDENT that brings a link up, and a scan read that
withdraws a segment; in HALTED no stored request is examined. -/
def Obligations.TriggersAreSpent : Prop :=
  (∀ s t : State, NoTriggerWaits s → step s = .next t → NoTriggerWaits t)
  ∧ (∀ s : State, s.pass = (s.rse.queue.map (·.route)).foldl (fun u route => State.examineEntry route u) s)
  ∧ (∀ (s : State) (route : Nat) (q : QueueEntry), s.rse.queue.find? (fun q => q.route == route) = some q →
    (∀ d xs slot, s.examine route = .ok (d, xs) → s.rsv.lowestFree 48 = some slot →
      State.examineEntry route s
        = ({ s with rse := { s.rse with queue := s.rse.queue.filter fun q => q.route != route } } : State).take
            route q.hold slot d xs)
    ∧ ∀ reason e, s.examine route = .error (reason, e) →
      (reason.waitable = true → State.examineEntry route s = { s with rse := { s.rse with
        queue := s.rse.queue.map fun q => if q.route = route then { q with reason := reason, element := e } else q } })
      ∧ (reason.waitable = false → State.examineEntry route s = { s with
        rse := { s.rse with
          queue := s.rse.queue.filter fun q => q.route != route
          table := s.rse.table.adjust route fun x => { x with outcome := some (.failed reason e), unread := true } }
        cp := { s.cp with latches := s.cp.latches ||| 0x001 } }))
  ∧ (∀ (s : State) (address : Word) (value check : Byte) (e : Nat), s.mode = .operating →
    (∀ b, Selects s 0x11 address value check e → s.sectionAt e = some b →
      (value = 0 ∧ b.occupancy ≠ .clear) ∨ (value = 1 ∧ b.occupancy = .unknown) →
      RetriesAfter (.fieldStatusTelegram 0x11 address value check) s
        fun u => u.occupancy e = if value = 0 then .clear else .occupied)
    ∧ ∀ b, Selects s 0x12 address value check e → s.pointsAt e = some b →
      b.detection = .unknown ∨ (b.moving = true ∧ ∃ p : Position, b.demanded = some p ∧ b.detection ≠ p.detection
        ∧ value = if p = .normal then 1 else 2) →
      RetriesAfter (.fieldStatusTelegram 0x12 address value check) s
        fun u => u.detection e = if value = 1 then .normal else if value = 2 then .reverse else .noDetection)
  ∧ (∀ s : State, s.mode = .operating →
    (∀ e b, s.pointsAt e = some b → b.moving = true → b.throwTimer = some 0 →
      RetriesAfter (.throwTimerExpiry e) s fun u => u.detection e = b.detection)
    ∧ (∀ slot r, s.routeRecord slot = some r →
      (r.state = .approachHold → r.holdTimer = some 0 →
        RetriesAfter (.approachHoldExpiry slot) s fun u => u.routeRecord slot = none)
      ∧ (r.state = .timedRelease → r.holdTimer = some 0 →
        RetriesAfter (.timedReleaseExpiry slot) s fun u => u.routeRecord slot = none)
      ∧ (r.overlapStatus = .timing → r.overlapTimer = some 0 →
        RetriesAfter (.overlapTimerExpiry slot) s
          fun u => ∀ r', u.routeRecord slot = some r' → r'.overlapStatus = .released))
    ∧ (∀ port n k sequence index flags, s.slotOfPort port = some n → s.slot n = some k → k.link = .ident →
      flags.getLsbD 1 = true → k.lines.length ≤ 8 →
      RetriesAfter (.identReceived port sequence index k.expected s.areaId 1 (BitVec.ofNat 8 k.lines.length) flags) s
        fun u => (u.slot n).map (·.link) = some .up)
    ∧ ∀ r, s.ts.scanTimer = some 0 → 1 ≤ s.ts.scanPosition → s.ts.scanPosition ≤ 243 →
      s.segment s.ts.scanPosition = r → r.frozen = true → r.condition ≠ .withdrawn → r.flips.Nodup →
      5 ≤ r.flips.length →
      RetriesAfter .scanTimerExpiry s fun u => (u.segment s.ts.scanPosition).condition = .withdrawn)
  ∧ ∀ (s t : State) (c : Instr), s.mode = .halted → t.mode = .halted → exec c s = .next t →
    t.rse.queue = s.rse.queue ∨ ∃ route, c = .storageTimerExpiry route

/-! The command port. -/

/-- The frame that a well-formed request is sent in is judged to be that request. -/
def Obligations.RequestFramesAreJudgedBack : Prop :=
  ∀ (c : Instr) (frame : List Byte), c.wellFormed = true → requestFrame c = some frame →
    judgeFrame frame = .request c

/-- A complete frame is bad where its check bytes are not the CRC of what precedes them, where its kind is not of the
catalogue, and where its length is not the parameter length of the kind; else it is a request. A bad frame is answered
BAD_FRAME with no other effect. That a complete frame comes as one command is the model's choice (log 5). -/
def Obligations.BadFrameIsAnswered : Prop :=
  (∀ (kind len : Byte) (ps check : List Byte), ps.length = len.toNat → check.length = 2 →
    (check ≠ Word.bytes (crc16 (kind :: len :: ps)) → judgeFrame (kind :: len :: (ps ++ check)) = .bad)
    ∧ (kind = 0 ∨ 0x1C < kind.toNat → judgeFrame (kind :: len :: (ps ++ check)) = .bad)
    ∧ (¬ ParameterLength kind.toNat len.toNat → judgeFrame (kind :: len :: (ps ++ check)) = .bad)
    ∧ (check = Word.bytes (crc16 (kind :: len :: ps)) → ParameterLength kind.toNat len.toNat →
      ∃ c, judgeFrame (kind :: len :: (ps ++ check)) = .request c))
  ∧ ∀ (frame : List Byte) (s : State), s.cp.receiver = .receiving → judgeFrame frame = .bad →
    exec (.badFrame frame) s = .next (answered s 0x06 [])

/-- Select falling in IDLE, select rising in RECEIVING and in ANSWERING: the receiver moves and nothing else changes, but
that select falling draws a free value (log 38); in another receiver state each leaves the device as it is (log 4). The
response frame is the marker 5Ah, the status, the data length, the data, and the CRC over these three. On data-out the
device sends 0xFF while RECEIVING, and in ANSWERING at most 8 bytes of 0xFF, the response frame, and then 0xFF. -/
def Obligations.SelectMovesTheReceiver : Prop :=
  (∀ s : State,
    (s.cp.receiver = .idle →
      exec .selectFall s = .next
        { s with cp := { s.cp with receiver := .receiving, answer := none }, fresh := s.fresh + 1 })
    ∧ (s.cp.receiver = .receiving →
      exec .partialFrameDiscard s = .next { s with cp := { s.cp with receiver := .idle } })
    ∧ (s.cp.receiver = .answering →
      exec .transactionEnd s = .next { s with cp := { s.cp with receiver := .idle, answer := none } })
    ∧ (s.cp.receiver ≠ .idle → exec .selectFall s = .next s)
    ∧ (s.cp.receiver ≠ .receiving → exec .partialFrameDiscard s = .next s)
    ∧ (s.cp.receiver ≠ .answering → exec .transactionEnd s = .next s))
  ∧ (∀ (status : Byte) (data : List Byte), ({ status := status, data := data } : Answer).frame
      = 0x5A :: status :: BitVec.ofNat 8 data.length :: (data ++
          Word.bytes (crc16 (status :: BitVec.ofNat 8 data.length :: data))))
  ∧ ∀ s : State,
    (s.cp.receiver = .receiving → ∀ i, s.dataOut i = some 0xFF)
    ∧ ∀ a, s.cp.receiver = .answering → s.cp.answer = some a → ∃ lead, lead ≤ 8
        ∧ (∀ i, i < lead → s.dataOut i = some 0xFF)
        ∧ (∀ i b, a.frame[i]? = some b → s.dataOut (lead + i) = some b)
        ∧ ∀ i, lead + a.frame.length ≤ i → s.dataOut i = some 0xFF

/-- A request in a mode that its column of R185 does not mark is answered WRONG_MODE and changes nothing else; a request
is taken only while its frame is being received (log 4). -/
def Obligations.RequestsAreGated : Prop :=
  ∀ (c : Instr) (modes : List Mode) (s : State), requestModes c = some modes → NoTriggerWaits s →
    (s.cp.receiver = .receiving → s.mode ∉ modes → exec c s = .next (answered s 0x05 []))
    ∧ (s.cp.receiver ≠ .receiving → exec c s = .next s)

/-- READ_NOTICES reports latches, enables and master and clears the latches; one latched after it stays (R188). -/
def Obligations.ReadNoticesReportsAndClears : Prop :=
  ∀ s : State, s.cp.receiver = .receiving →
    ∃ t, exec .readNotices s = .next t
      ∧ t = answered { s with cp := { s.cp with latches := 0 } } 0x00
          (Word.bytes (s.cp.latches.setWidth 16) ++ Word.bytes (s.cp.enables.setWidth 16)
            ++ [if s.cp.master then 1 else 0])
      ∧ ∀ n : Notice, (t.latch n).cp.latches = n.bit

/-- The attention line, and SET_NOTICE_ENABLES in the modes that accept it (R187). -/
def Obligations.AttentionFollowsEnables : Prop :=
  (∀ s : State, s.attention = true ↔
    s.cp.master = true ∧ ∃ i, i < 9 ∧ s.cp.latches.getLsbD i = true ∧ s.cp.enables.getLsbD i = true)
  ∧ ∀ (s : State) (enables : Word) (master : Byte), Receives s [.configuration, .starting, .operating] →
    (master = 0 ∨ master = 1 → exec (.setNoticeEnables enables master) s = .next (answered
      { s with cp := { s.cp with enables := enables.setWidth 9, master := decide (master = 1) } } 0x00
      (Word.bytes (enables &&& 0x01FF) ++ [master])))
    ∧ (master ≠ 0 → master ≠ 1 → exec (.setNoticeEnables enables master) s = .next (refused s 0x01))

/-- IDENTIFY and STATUS report and change nothing. The silicon revision is log 13, the layout of absent fields log 15. -/
def Obligations.IdentifyAndStatusReport : Prop :=
  ∀ s : State, s.cp.receiver = .receiving →
    exec .identify s = .next (answered s 0x00
      ([0x04, 0x10, Config.siliconRevision, 1, 1] ++
        if s.mode = .operating ∨ s.mode = .halted then Word.bytes s.areaId else [0, 0]))
    ∧ exec .status s = .next (answered s 0x00
      (([match s.mode with | .configuration => 0 | .starting => 1 | .operating => 2 | .halted => 3,
          if s.ts.op.isSome then 1 else 0] : List Byte)
      ++ (match s.ts.lastStart with
          | none => [0xFF, 0xFF, 0xFF, 0xFF]
          | some .succeeded => [0, 0xFF, 0xFF, 0xFF]
          | some (.failed g p r) => [1, BitVec.ofNat 8 g, BitVec.ofNat 8 p, r.code])
      ++ [BitVec.ofNat 8 s.rsv.length, BitVec.ofNat 8 s.rse.queue.length, BitVec.ofNat 8 s.fu.claims.length,
          if s.mode = .operating then BitVec.ofNat 8 s.ts.scanPosition else 0xFF]))

/-- READ_COUNTERS answers the counters; with the clear option the field counters and each slot's total errors and drop
count are then 0, and levels and kinds stay. A clear option other than 00h and 01h is refused NOT_DEFINED, which is the
model's choice (log 35). The bytes of the answer are the layout of log 15. -/
def Obligations.CountersAreReadAndCleared : Prop :=
  ∀ (s : State) (clear : Byte), s.cp.receiver = .receiving →
    (clear = 0 → exec (.readCounters clear) s = .next (answered s 0x00 s.counterAnswer))
    ∧ (clear = 1 → exec (.readCounters clear) s = .next (answered
        { s with fi := { s.fi with unmapped := 0, kindMismatch := 0, badCheck := 0 },
                 lk := s.lk.map fun p => (p.1, { p.2 with errors := 0, drops := 0 }) } 0x00 s.counterAnswer))
    ∧ (clear ≠ 0 → clear ≠ 1 → exec (.readCounters clear) s = .next (refused s 0x01))

/-- NEXT_OUTCOME answers the lowest unread route and clears its mark and no notice latch; with none unread it answers no
route; an outcome written later sets the mark again; outside OPERATING and HALTED the answer is WRONG_MODE (R67). The
bytes of the answer, an absent reason or element as all ones, are the layout of log 15. -/
def Obligations.NextOutcomeAnswersTheLowestUnread : Prop :=
  (∀ s : State, s.cp.receiver = .receiving → s.mode = .configuration ∨ s.mode = .starting →
    exec .nextOutcome s = .next (answered s 0x05 []))
  ∧ (∀ (s : State) (r : Nat) (e : RouteEntry) (o : RouteOutcome), s.rse.table.find r = some e →
    (s.writeOutcome r o).rse.table.find r = some { e with outcome := some o, unread := true })
  ∧ ∀ s : State, Receives s [.operating, .halted] → Ascending s.rse.table →
    (∀ (r : Nat) (e : RouteEntry), s.rse.table.find r = some e → e.unread = true →
      (∀ r' e', s.rse.table.find r' = some e' → e'.unread = true → r ≤ r') →
      exec .nextOutcome s = .next (answered
        { s with rse := { s.rse with table := s.rse.table.adjust r fun e => { e with unread := false } } } 0x00
        (Word.bytes (BitVec.ofNat 16 r) ++ match e.outcome with
          | none => [0xFF, 0xFF, 0xFF, 0xFF]
          | some .set => [0, 0xFF, 0xFF, 0xFF]
          | some (.failed reason x) => [1, reason.code] ++ elementBytes x
          | some (.storageTimeout reason x) => [2, reason.code] ++ elementBytes x
          | some .cancelled => [3, 0xFF, 0xFF, 0xFF]
          | some .released => [4, 0xFF, 0xFF, 0xFF])))
    ∧ ((∀ r e, s.rse.table.find r = some e → e.unread = false) →
      exec .nextOutcome s = .next (answered s 0x00 [0xFF, 0xFF, 0xFF, 0xFF, 0xFF, 0xFF]))

/-- NEXT_FAULT answers the lowest element with a fault flag and its flags in one byte, and clears them and no notice
latch; with none set it answers element FFFFh and flags 0 (R189). -/
def Obligations.NextFaultAnswersTheLowest : Prop :=
  (∀ f : Faults, f.byte.getLsbD 0 = f.throwFailed ∧ f.byte.getLsbD 1 = f.detectionLost
    ∧ f.byte.getLsbD 2 = f.unsolicitedMove ∧ f.byte.getLsbD 3 = f.notProven ∧ f.byte.getLsbD 4 = f.wrongAspect
    ∧ f.byte.getLsbD 5 = f.dark ∧ f.byte.getLsbD 6 = f.supervisionLost ∧ f.byte.getLsbD 7 = f.kindMismatchSeen)
  ∧ ∀ s : State, Receives s [.operating, .halted] → Ascending s.es →
    (∀ (e : Nat) (r : Element), s.element e = some r → r.faults ≠ {} →
      (∀ e' r', s.element e' = some r' → r'.faults ≠ {} → e ≤ e') →
      exec .nextFault s = .next (answered { s with es := s.es.adjust e fun r => { r with faults := {} } } 0x00
        (Word.bytes (BitVec.ofNat 16 e) ++ [r.faults.byte])))
    ∧ ((∀ e r, s.element e = some r → r.faults = {}) →
      exec .nextFault s = .next (answered s 0x00 [0xFF, 0xFF, 0]))

/-! The topology store and the modes. -/

/-- TOPO_PROGRAM in CONFIGURATION: the cases in order, and the program that begins. A completed program ANDs the bytes
sent into the addressed ones of a canonical store and changes no other byte and nothing else. -/
def Obligations.ProgramBeginsAndAnds : Prop :=
  (∀ (s : State) (g offset : Nat) (data : List Byte), s.ts.op = some (.program g offset data) →
    ∃ mem : Memory, exec .topoProgramComplete s = .next { s with ts := { s.ts with op := none, mem := mem } }
      ∧ (StoreCanonical s → ∀ i b, data[i]? = some b →
          mem.read (512 * g + offset + i) = s.ts.mem.read (512 * g + offset + i) &&& b)
      ∧ ∀ a, (a < 512 * g + offset ∨ 512 * g + offset + data.length ≤ a) → mem.read a = s.ts.mem.read a)
  ∧ ∀ (s : State) (segment : Byte) (offset : Word) (data : List Byte), Receives s [.configuration] →
    exec (.topoProgram segment offset data) s = .next (
      if s.ts.op.isSome then answered s 0x04 []
      else if 243 < segment.toNat ∨ data.length < 1 ∨ 240 < data.length ∨ 512 < offset.toNat + data.length then
        refused s 0x1F
      else if (s.segment segment.toNat).frozen then refused s 0x20
      else if 4 ≤ (s.segment segment.toNat).count then refused s 0x21
      else answered { s with ts := { s.ts with
        op := some (.program segment.toNat offset.toNat data)
        segments := s.ts.segments.put segment.toNat
          { s.segment segment.toNat with count := (s.segment segment.toNat).count + 1 } } } 0x00 [])

/-- TOPO_FREEZE in CONFIGURATION, and the freeze that completes: the segment is FROZEN_GOOD, its bytes as they were. -/
def Obligations.FreezeBeginsAndCompletes : Prop :=
  (∀ (s : State) (segment : Byte), Receives s [.configuration] →
    exec (.topoFreeze segment) s = .next (
      if s.ts.op.isSome then answered s 0x04 []
      else if 243 < segment.toNat then refused s 0x1F
      else if (s.segment segment.toNat).frozen then refused s 0x20
      else answered { s with ts := { s.ts with op := some (.freeze segment.toNat) } } 0x00 []))
  ∧ ∀ (s : State) (g : Nat), s.ts.op = some (.freeze g) →
    exec .topoFreezeComplete s = .next { s with ts := { s.ts with
      op := none
      segments := s.ts.segments.put g { count := (s.segment g).count, frozen := true, condition := .good,
                                        lastClass := .clean, flips := [] } } }

/-- TOPO_READ within range: bytes and class by the number of decayed bits; three or four make a good segment MARGINAL,
more WITHDRAWN, with INTEGRITY; nothing but the segment's class and condition and the latches changes. An uncorrectable
read returns the bytes as they stand, each decayed bit inverted. Out of range the read is refused RANGE. TOPO_STATUS
reports state, count and last class and changes nothing. The decayed bits of a segment are the model's (log 8), and so is
the answer of TOPO_READ as the bytes without a count, then the class (log 15). -/
def Obligations.TopoReadAndStatus : Prop :=
  (∀ (s : State) (segment : Byte) (r : Segment), Receives s [.configuration] → s.segment segment.toNat = r →
    (segment.toNat ≤ 243 → exec (.topoStatus segment) s = .next (answered s 0x00
      [if r.frozen then (match r.condition with | .good => 2 | .marginal => 3 | .withdrawn => 4)
       else if r.count = 0 then 0 else 1, BitVec.ofNat 8 r.count,
       match r.lastClass with | .clean => 0 | .correctedLow => 1 | .correctedHigh => 2 | .uncorrectable => 3]))
    ∧ (243 < segment.toNat → exec (.topoStatus segment) s = .next (refused s 0x1F)))
  ∧ (∀ (s : State) (segment : Byte) (offset : Word) (count : Byte), Receives s [.configuration] →
    243 < segment.toNat ∨ count.toNat < 1 ∨ 240 < count.toNat ∨ 512 < offset.toNat + count.toNat →
    exec (.topoRead segment offset count) s = .next (refused s 0x1F))
  ∧ ∀ (s : State) (segment : Byte) (offset : Word) (count : Byte) (r : Segment), Receives s [.configuration] →
    segment.toNat ≤ 243 → 1 ≤ count.toNat → count.toNat ≤ 240 → offset.toNat + count.toNat ≤ 512 →
    s.segment segment.toNat = r →
    ∃ (data : List Byte) (c : ReadClass) (q : Condition),
      exec (.topoRead segment offset count) s = .next (answered
        { s with
          ts := { s.ts with segments := s.ts.segments.put segment.toNat { r with lastClass := c, condition := q } }
          cp := { s.cp with latches := if q = r.condition then s.cp.latches else s.cp.latches ||| 0x040 } }
        0x00 (data ++ [(match c with
          | .clean => 0 | .correctedLow => 1 | .correctedHigh => 2 | .uncorrectable => 3 : Byte)]))
      ∧ (c ≠ .uncorrectable → data = (List.range count.toNat).map fun i =>
          s.ts.mem.read (512 * segment.toNat + offset.toNat + i))
      ∧ (c = .uncorrectable → data.length = count.toNat ∧ ∀ (i : Nat) (b : Byte), data[i]? = some b → ∀ j, j < 8 →
          b.getLsbD (7 - j) = ((s.ts.mem.read (512 * segment.toNat + offset.toNat + i)).getLsbD (7 - j)
            ^^ decide (8 * (offset.toNat + i) + j ∈ r.flips)))
      ∧ (r.frozen = false → c = .clean ∧ q = r.condition)
      ∧ (r.frozen = true → r.flips.Nodup →
          c = (if r.flips.length = 0 then .clean else if r.flips.length ≤ 2 then .correctedLow
               else if r.flips.length ≤ 4 then .correctedHigh else .uncorrectable)
          ∧ q = (match c with
               | .clean | .correctedLow => r.condition
               | .correctedHigh => if r.condition = .good then .marginal else r.condition
               | .uncorrectable => .withdrawn))

/-- START in CONFIGURATION answers DONE and moves to STARTING. The START pass ends in OPERATING, or in CONFIGURATION
with the failure kept and the tables as they stood; either way MODE_CHANGE is latched and no byte of the store changes.
It fails where segment 0 is not frozen, is uncorrectable (bit errors are log 8) or has an area id of 0 or above 4095, in
this order, and with the segment, place and reason of the first failure of R176, where one of its tests fails; else it
ends in OPERATING. The first failure is that of the model's validation: where R176 leaves open which test comes first,
with which reason a description fails, or in a few cases whether it fails at all, that is the model's choice (log 16).
That the reads and their judgment are one event at the end of the pass is log 12. Then the records of the defined
elements hold their values at the start of operation, every signal is demanded STOP and is in the pending demands, every
outcome is absent, and each enabled slot with a port is in HOLDOFF. -/
def Obligations.StartAndItsPass : Prop :=
  (∀ s : State, Receives s [.configuration] → exec .start s = .next (answered { s with mode := .starting } 0x00 []))
  ∧ ∀ s : State, s.mode = .starting → s.ts.op = none →
    ∃ t, exec .startPassComplete s = .next t ∧ t.ts.mem = s.ts.mem ∧ t.cp.latches.getLsbD 8 = true
      ∧ (t.mode = .configuration ∨ t.mode = .operating)
      ∧ ((s.segment 0).frozen = false → t.mode = .configuration
          ∧ t.ts.lastStart = some (.failed 0 0 .headerNotFrozen))
      ∧ ((s.segment 0).frozen = true → (s.segment 0).flips.Nodup →
          (5 ≤ (s.segment 0).flips.length → t.mode = .configuration
            ∧ t.ts.lastStart = some (.failed 0 0 .headerWithdrawn))
          ∧ ((s.segment 0).flips.length ≤ 4 →
            ((s.wordAt 0).toNat = 0 ∨ 4095 < (s.wordAt 0).toNat → t.mode = .configuration
              ∧ t.ts.lastStart = some (.failed 0 0 .headerAreaId))
            ∧ (1 ≤ (s.wordAt 0).toNat → (s.wordAt 0).toNat ≤ 4095 →
              (∀ g place reason, (s.passSegments 244).buildTables.validate = some (g, place, reason) →
                t.mode = .configuration ∧ t.ts.lastStart = some (.failed g place reason))
              ∧ ((s.passSegments 244).buildTables.validate = none → t.mode = .operating))))
      ∧ (t.mode = .configuration → (∃ g place reason, t.ts.lastStart = some (.failed g place reason))
          ∧ t.areaId = s.areaId ∧ t.es = s.es ∧ t.fi = s.fi ∧ t.rse = { s.rse with triggers := 0 } ∧ t.rsv = s.rsv
          ∧ t.fu = s.fu ∧ t.lk = s.lk ∧ t.bu = s.bu)
      ∧ (t.mode = .operating → t.ts.lastStart = some .succeeded ∧ t.ts.scanPosition = 0
          ∧ t.ts.scanTimer = some 5 ∧ t.areaId = s.wordAt 0 ∧ t.rsv = [] ∧ t.rse.queue = [] ∧ t.fu.claims = []
          ∧ (∀ e b, t.signalAt e = some b → b.demanded = .stop)
          ∧ (∀ e x, t.element e = some x → FreshElement x
              ∧ (x.withdrawn = true ↔ (t.segment (1 + e / 16)).condition = .withdrawn))
          ∧ (∀ e, (t.element e).isSome ↔ e ≤ 511 ∧ (t.segment (1 + e / 16)).frozen = true
              ∧ ((t.segment (1 + e / 16)).condition = .withdrawn
                ∨ 1 ≤ (t.byteAt (512 * (1 + e / 16) + 32 * (e % 16))).toNat
                  ∧ (t.byteAt (512 * (1 + e / 16) + 32 * (e % 16))).toNat ≤ 4))
          ∧ (∀ e x b a, t.element e = some x → x.body = .signal b → x.address = some a →
              (∀ p, s.fi.demands.find e = some p → p = { kind := .signal, address := a }) →
              t.fi.demands.find e = some { kind := .signal, address := a })
          ∧ (∀ r x, t.rse.table.find r = some x → x.outcome = none ∧ x.unread = false)
          ∧ ∀ n k, t.slot n = some k → k.link = (if k.enabled = true ∧ k.port.isSome then .holdoff else .off))

/-- A scan read in OPERATING moves position and timer on. One that withdraws nothing changes no record. One that finds a
segment from 1 to 243 uncorrectable (bit errors are log 8) withdraws it with INTEGRITY and what was built from it: its 16
elements, the object address map, its eight lines, its 16 flank groups or its two routes. A record in CLEARING or CLEARED
is replaced: with WITHDRAWN and the first of its elements that are withdrawn, with FLANK_LOST where it holds a reference
by a claim on such an element or by a withdrawn line, and with REMOTE_NOT_CLEAR where its own line is withdrawn (R95,
R96, R100). That all the segment withdraws is marked, and its lines' images written, before the first record is tested is
the model's choice (log 7): it decides the reason and the element where a record meets several of these, such as a
reference by one line of the segment and the exit over another. A scan read of a segment that is not frozen or is
WITHDRAWN already withdraws nothing. -/
def Obligations.ScanReadsAndMovesOn : Prop :=
  (∀ (s : State) (r : Segment), s.mode = .operating → s.ts.scanTimer = some 0 → NoTriggerWaits s →
    s.segment s.ts.scanPosition = r → r.frozen = true → r.flips.Nodup → r.flips.length ≤ 4 →
    ∃ t, exec .scanTimerExpiry s = .next t ∧ t.ts.scanPosition = (if s.ts.scanPosition = 243 then 0
        else s.ts.scanPosition + 1) ∧ t.ts.scanTimer = some 5 ∧ t.ts.mem = s.ts.mem ∧ t.mode = .operating
      ∧ t.es = s.es ∧ t.rse = s.rse ∧ t.rsv = s.rsv ∧ t.fu = s.fu ∧ t.lk = s.lk ∧ t.bu = s.bu ∧ t.fi = s.fi
      ∧ (3 ≤ r.flips.length → r.condition = .good → (t.segment s.ts.scanPosition).condition = .marginal
          ∧ t.cp.latches = s.cp.latches ||| 0x040))
  ∧ (∀ (s : State) (r : Segment), s.mode = .operating → s.ts.scanTimer = some 0 → NoTriggerWaits s →
    s.segment s.ts.scanPosition = r → r.frozen = false ∨ r.condition = .withdrawn →
    ∃ t c, exec .scanTimerExpiry s = .next t
      ∧ t = { s with ts := { s.ts with
          scanPosition := if s.ts.scanPosition = 243 then 0 else s.ts.scanPosition + 1
          scanTimer := some 5
          segments := s.ts.segments.put s.ts.scanPosition { r with lastClass := c } } }
      ∧ (r.frozen = false → c = .clean))
  ∧ ∀ (s : State) (g : Nat) (r : Segment), s.mode = .operating → s.ts.scanTimer = some 0 → NothingStored s →
    NoTriggerWaits s →
    s.ts.scanPosition = g → 1 ≤ g → g ≤ 243 → s.segment g = r → r.frozen = true → r.condition ≠ .withdrawn →
    r.flips.Nodup → 5 ≤ r.flips.length →
    ∃ t, exec .scanTimerExpiry s = .next t ∧ t.mode = .operating ∧ t.ts.mem = s.ts.mem
      ∧ t.ts.scanPosition = (if g = 243 then 0 else g + 1) ∧ t.ts.scanTimer = some 5
      ∧ (t.segment g).condition = .withdrawn ∧ (t.segment g).lastClass = .uncorrectable
      ∧ t.cp.latches.getLsbD 6 = true
      ∧ (∀ e x, s.element e = some x →
          ∃ y, t.element e = some y ∧ y.withdrawn = (x.withdrawn || decide (g ≤ 32 ∧ e / 16 + 1 = g)))
      ∧ (g ≠ 33 → t.fi.map = s.fi.map)
      ∧ (g = 33 → t.fi.map = s.fi.map.map (fun _ =>
            { matchValue := 0xFFFF, mask := 0xFFFF, base := 0xFFFF, window := 0xFFFF })
          ∧ t.es = s.es ∧ t.rse = s.rse ∧ t.rsv = s.rsv ∧ t.fu = s.fu ∧ t.lk = s.lk ∧ t.bu = s.bu)
      ∧ (∀ l x, s.line l = some x → ∃ y, t.line l = some y
          ∧ y.withdrawn = (x.withdrawn || decide (34 ≤ g ∧ g ≤ 35 ∧ l / 8 + 34 = g))
          ∧ (34 ≤ g → g ≤ 35 → l / 8 + 34 = g → x.withdrawn = false → y.view = .unknown ∧ y.conflict = false
              ∧ ∀ e, x.boundary = some e → t.remoteImage e = .unknown))
      ∧ (36 ≤ g → g ≤ 51 → (∀ i, i < 16 → ∃ y, t.fu.groups.find (16 * (g - 36) + i) = some y ∧ y.available = false)
          ∧ (∀ i, i / 16 + 36 ≠ g → t.fu.groups.find i = s.fu.groups.find i)
          ∧ t.es = s.es ∧ t.fi = s.fi ∧ t.rse = s.rse ∧ t.rsv = s.rsv ∧ t.lk = s.lk ∧ t.bu = s.bu)
      ∧ (52 ≤ g → (∀ i, i < 2 → ∃ y, t.rse.table.find (2 * (g - 52) + i) = some y ∧ y.available = false
            ∧ ∀ x, s.rse.table.find (2 * (g - 52) + i) = some x → y = { x with available := false })
          ∧ (∀ i, i / 2 + 52 ≠ g → t.rse.table.find i = s.rse.table.find i)
          ∧ t.es = s.es ∧ t.fi = s.fi ∧ t.rsv = s.rsv ∧ t.fu = s.fu ∧ t.lk = s.lk ∧ t.bu = s.bu)
      -- records in CLEARING and CLEARED
      ∧ (Ascending s.rsv → ∀ slot q, StandsClear s slot q →
        (∀ x, FirstFailing (recordElements q) (fun y => y.1 / 16 + 1 ≠ g) x → g ≤ 32 →
          Replaced s t slot q .withdrawn x.1)
        ∧ ((∀ y, y ∈ recordElements q → y.1 / 16 + 1 ≠ g) →
          ∀ e c, HoldsClaim s slot q e c → g ≤ 32 → e / 16 + 1 = g → s.isWithdrawn e = false → FlankIsLost s t slot q)
        ∧ ∀ l x, s.line l = some x → x.withdrawn = false → 34 ≤ g → g ≤ 35 → l / 8 + 34 = g →
          (∀ i, HoldsBy s q (.remoteAlt l i) → FlankIsLost s t slot q)
          ∧ (x.boundary = some q.definition.exit → q.handover.isSome → HandoverIsLost s t slot q .remoteNotClear))

/-- A scan read that finds segment 0 uncorrectable (bit errors are log 8) halts the device: the scan stops, every signal is
demanded STOP, no offer stays PENDING_HOST, and a record in CLEARED, or in CLEARING with its first section not OCCUPIED,
is in LOCKED, replaced with reason HALTED and its entry signal. -/
def Obligations.UncorrectableHeaderHalts : Prop :=
  ∀ (s : State) (r : Segment), s.mode = .operating → s.ts.scanTimer = some 0 → s.ts.scanPosition = 0 →
    s.segment 0 = r → r.frozen = true → r.condition ≠ .withdrawn → r.flips.Nodup → 5 ≤ r.flips.length →
    ∃ t, exec .scanTimerExpiry s = .next t ∧ t.mode = .halted ∧ t.ts.scanTimer = none ∧ t.ts.mem = s.ts.mem
      ∧ (t.segment 0).condition = .withdrawn
      ∧ t.cp.latches.getLsbD 6 = true ∧ t.cp.latches.getLsbD 8 = true
      ∧ (∀ e b, t.signalAt e = some b → b.demanded = .stop)
      ∧ (∀ l o, (t.line l).bind (·.inOffer) = some o → o.accepted = true)
      ∧ ∀ slot q, s.routeRecord slot = some q →
          q.state = .cleared ∨ q.state = .clearing ∧ s.occupancy q.definition.firstSection ≠ .occupied →
          ∃ q', t.routeRecord slot = some q' ∧ q'.state = .locked
            ∧ q'.replaced = some (.halted, q.definition.entry) ∧ t.cp.latches.getLsbD 1 = true

/-- RESTART in any mode answers DONE in CONFIGURATION with the tables, records, claims and lines discarded; the store's
bytes, the enables and the counters stay. Every SIGNAL element of the discarded records is in the pending demands with
its own object address, so that STOP is sent to it (R22, R34); of the others only demands of signals remain. -/
def Obligations.RestartDiscardsOperation : Prop :=
  ∀ s : State, s.cp.receiver = .receiving →
    ∃ t, exec .restart s = .next t ∧ t.mode = .configuration
      ∧ t.cp = { s.cp with receiver := .answering, answer := some { status := 0x00, data := [] }, latches := 0 }
      ∧ t.areaId = 0 ∧ t.es = [] ∧ t.rsv = [] ∧ t.bu = [] ∧ t.rse = { table := [], queue := [], triggers := 0 }
      ∧ t.fu = { groups := [], claims := [], items := [], nextAsk := [] } ∧ t.fi.map = []
      ∧ t.fi.unmapped = s.fi.unmapped ∧ t.fi.kindMismatch = s.fi.kindMismatch ∧ t.fi.badCheck = s.fi.badCheck
      ∧ (∀ e p, t.fi.demands.find e = some p → p.kind = .signal)
      ∧ (∀ e x b a, s.element e = some x → x.body = .signal b → x.address = some a →
          (∀ p, s.fi.demands.find e = some p → p = { kind := .signal, address := a }) →
          t.fi.demands.find e = some { kind := .signal, address := a })
      ∧ (∀ e, t.demandValue e .signal = (0x23, 0x00))
      ∧ t.ts.mem = s.ts.mem ∧ t.ts.op = s.ts.op ∧ t.ts.lastStart = s.ts.lastStart ∧ t.ts.scanTimer = none
      ∧ ∀ n k, s.slot n = some k → ∃ k', t.slot n = some k' ∧ k'.level = 0 ∧ k'.restartPending = true
          ∧ k'.errors = k.errors ∧ k'.drops = k.drops ∧ k'.link = (if k.link = .off then .off else .holdoff)

/-- Power-on reset: every block but the store as after reset, the link slots OFF with no port and their counters at 0;
the scan position and the other fields that no rule gives a reset value have the model's (log 22), and what the far ends
have not yet read stays (log 17); of the store the contents, counts and frozen marks stay, but for the bytes of a
program cut short, each of which keeps its value or, in a canonical store, has the byte sent ANDed in (log 10). The
decayed bits are the model's and stay (log 8). -/
def Obligations.PowerOnResetKeepsTheStore : Prop :=
  ∀ s : State, ∃ t, exec .powerOnReset s = .next t ∧ t.mode = .configuration ∧ t.areaId = 0 ∧ t.cp = State.reset.cp
    ∧ t.es = [] ∧ t.rsv = [] ∧ t.bu = [] ∧ t.rse = State.reset.rse ∧ t.fu = State.reset.fu
    ∧ t.fi = { State.reset.fi with out := s.fi.out } ∧ t.pending = s.pending
    ∧ t.lk = [0, 1, 2, 3].map (fun n => (n, { ({} : LinkSlot) with out := ((s.slot n).map (·.out)).getD [] }))
    ∧ (∀ n, n ≤ 3 → ∃ k, t.slot n = some k ∧ k.link = .off ∧ k.enabled = false ∧ k.port = none ∧ k.lines = []
        ∧ k.restartPending = true ∧ k.errors = 0 ∧ k.drops = 0 ∧ k.level = 0 ∧ k.transmit = [])
    ∧ t.ts.op = none ∧ t.ts.lastStart = none ∧ t.ts.scanTimer = none ∧ t.ts.scanPosition = 0
    ∧ (∀ g, (t.segment g).count = (s.segment g).count ∧ (t.segment g).frozen = (s.segment g).frozen
        ∧ (t.segment g).flips = (s.segment g).flips
        ∧ (t.segment g).condition = .good ∧ (t.segment g).lastClass = .clean)
    ∧ ((∀ g offset data, s.ts.op ≠ some (.program g offset data)) → t.ts.mem = s.ts.mem)
    ∧ ∀ g offset data, s.ts.op = some (.program g offset data) →
        (StoreCanonical s → ∀ i b, data[i]? = some b →
          t.ts.mem.read (512 * g + offset + i) = s.ts.mem.read (512 * g + offset + i)
          ∨ t.ts.mem.read (512 * g + offset + i) = s.ts.mem.read (512 * g + offset + i) &&& b)
        ∧ ∀ a, (a < 512 * g + offset ∨ 512 * g + offset + data.length ≤ a) → t.ts.mem.read a = s.ts.mem.read a

/-! Elements. -/

/-- BLOCK sets the block mark and answers DONE, whatever else the record holds; nothing else changes, no clearing
condition changes, and outside OPERATING the answer is WRONG_MODE (R5). -/
def Obligations.BlockSetsTheMark : Prop :=
  ∀ (s : State) (e : Word) (r : Element), s.cp.receiver = .receiving →
    (s.mode = .operating → e.toNat ≤ 511 → s.element e.toNat = some r →
      ∃ t, exec (.block e) s = .next t
        ∧ t = answered { s with es := s.es.adjust e.toNat fun r => { r with blocked := true } } 0x00 []
        ∧ t.element e.toNat = some { r with blocked := true }
        ∧ ∀ n q, t.conditionFailure n q = s.conditionFailure n q)
    ∧ (s.mode ≠ .operating → exec (.block e) s = .next (answered s 0x05 []))

/-- UNBLOCK clears the block mark and answers DONE; the service state is then WITHDRAWN or IN_SERVICE, no stored request
is retried, and outside OPERATING the answer is WRONG_MODE (R6). -/
def Obligations.UnblockClearsTheMark : Prop :=
  ∀ (s : State) (e : Word) (r : Element), s.cp.receiver = .receiving →
    (s.mode = .operating → e.toNat ≤ 511 → s.element e.toNat = some r →
      ∃ t, exec (.unblock e) s = .next t
        ∧ t = answered { s with es := s.es.adjust e.toNat fun r => { r with blocked := false } } 0x00 []
        ∧ ∃ r', t.element e.toNat = some r' ∧ r' = { r with blocked := false }
          ∧ r'.serviceCode = if r.withdrawn then 2 else 0)
    ∧ (s.mode ≠ .operating → exec (.unblock e) s = .next (answered s 0x05 []))

/-- MOVE_POINTS on free points that stand elsewhere: the demand is written, the throw starts with its timer, the element
joins the pending demands; other elements and the other blocks stay. An element of another kind is refused NOT_POINTS;
points withdrawn, blocked, locked or claimed are refused in that order. Free points that are detected in the position, or
are moving to it, are answered DONE with nothing written; else they are refused SECTION_NOT_CLEAR where their section is
not CLEAR or is WITHDRAWN, and MOVING where they are moving to the other position. -/
def Obligations.MovePointsThrowsOrRefuses : Prop :=
  (∀ (s : State) (e : Word) (r : Element) (b : PointsBody) (p : Position), Receives s [.operating] →
    e.toNat ≤ 511 → s.element e.toNat = some r → r.body = .points b →
    (r.withdrawn = true ∨ r.blocked = true ∨ r.lock.isSome ∨ r.claim.isSome) →
    exec (.movePoints e (if p = .normal then 1 else 2)) s = .next (
      if r.withdrawn then refused s 0x11 else if r.blocked then refused s 0x07
      else if r.lock.isSome then refused s 0x08 else refused s 0x0B))
  ∧ (∀ (s : State) (e : Word) (r : Element) (p : Position), Receives s [.operating] → e.toNat ≤ 511 →
    s.element e.toNat = some r →
    ((∃ b, r.body = .sect b) ∨ (∃ b, r.body = .signal b) ∨ (∃ b, r.body = .boundary b) →
      exec (.movePoints e (if p = .normal then 1 else 2)) s = .next (refused s 0x10))
    ∧ ∀ b, r.body = .points b → r.withdrawn = false → r.blocked = false → r.lock = none → r.claim = none →
      (b.detection = p.detection ∨ (b.moving = true ∧ b.demanded = some p) →
        exec (.movePoints e (if p = .normal then 1 else 2)) s = .next (answered s 0x00 []))
      ∧ (b.detection ≠ p.detection → (b.moving = false ∨ b.demanded ≠ some p) →
        (s.occupancy b.containing ≠ .clear ∨ s.isWithdrawn b.containing = true →
          exec (.movePoints e (if p = .normal then 1 else 2)) s = .next (refused s 0x12))
        ∧ (s.occupancy b.containing = .clear → s.isWithdrawn b.containing = false → b.moving = true →
          exec (.movePoints e (if p = .normal then 1 else 2)) s = .next (refused s 0x13))))
  ∧ ∀ (s : State) (e : Word) (r : Element) (b : PointsBody) (position : Byte) (p : Position),
    Receives s [.operating] → e.toNat ≤ 511 → s.element e.toNat = some r → r.body = .points b →
    (position = 1 ∧ p = .normal ∨ position = 2 ∧ p = .reverse) →
    r.withdrawn = false → r.blocked = false → r.lock = none → r.claim = none →
    b.detection ≠ p.detection → b.moving = false →
    s.occupancy b.containing = .clear → s.isWithdrawn b.containing = false →
    ∃ t, exec (.movePoints e position) s = .next t
      ∧ t.cp = { s.cp with receiver := .answering, answer := some { status := 0x00, data := [] } }
      ∧ t.pointsAt e.toNat = some { b with demanded := some p, moving := true,
                                           throwTimer := some (max 10 (min 150 b.throwLimit.toNat)) }
      ∧ (t.fi.demands.find e.toNat).isSome
      ∧ (∀ e', e' ≠ e.toNat → t.element e' = s.element e' ∧ t.fi.demands.find e' = s.fi.demands.find e')
      ∧ t.mode = s.mode ∧ t.ts = s.ts ∧ t.rse = s.rse ∧ t.rsv = s.rsv ∧ t.fu = s.fu ∧ t.lk = s.lk ∧ t.bu = s.bu

/-- QUERY_ELEMENT answers the record; the take-capture option empties the capture of queried points; nothing else
changes, in that record or elsewhere. -/
def Obligations.QueryElementAnswers : Prop :=
  ∀ (s : State) (e : Word) (take : Byte) (r : Element), Receives s [.operating, .halted] → e.toNat ≤ 511 →
    s.element e.toNat = some r →
    ∃ t, exec (.queryElement e take) s = .next t
      ∧ t = { answered s 0x00 (elementAnswer e.toNat r) with es := t.es }
      ∧ (take.getLsbD 0 = false → t.es = s.es)
      ∧ (take.getLsbD 0 = true → ∀ b, r.body = .points b → t.element e.toNat = some { r with
          body := .points { b with captureValue := 0, captureHeld := false, captureMissed := false } })
      ∧ ((∀ b, r.body ≠ .points b) → t.element e.toNat = some r)
      ∧ ∀ e', e' ≠ e.toNat → t.element e' = s.element e'

/-! The field link. -/

/-- A received address selects the first map entry that agrees with it in every compared bit and whose window exceeds
the offset, the rest of the address; the element id is base plus offset. -/
def Obligations.MapSelectsTheFirstQualifyingEntry : Prop :=
  ∀ (map : List MapEntry) (a : Word) (e : Nat),
    selectElement map a = some e ↔
      ∃ (i : Nat) (m : MapEntry), map[i]? = some m
        ∧ (∀ j, j < 16 → m.mask.getLsbD j = true → a.getLsbD j = m.matchValue.getLsbD j)
        ∧ (a &&& ~~~m.mask).toNat < (if m.window = 0xFFFF then 0 else min 256 m.window.toNat)
        ∧ (∀ (i' : Nat) (m' : MapEntry), i' < i → map[i']? = some m' →
            (∃ j, j < 16 ∧ m'.mask.getLsbD j = true ∧ a.getLsbD j ≠ m'.matchValue.getLsbD j)
            ∨ (if m'.window = 0xFFFF then 0 else min 256 m'.window.toNat) ≤ (a &&& ~~~m'.mask).toNat)
        ∧ e = m.base.toNat + (a &&& ~~~m.mask).toNat

/-- A status telegram with a bad check or a foreign kind counts BAD_CHECK; one whose address selects no element record,
or a record without a kind, counts UNMAPPED; one for an element of another kind counts KIND_MISMATCH and latches
KIND_MISMATCH_SEEN. Each counter saturates; a framing error and a gap count BAD_CHECK; nothing else changes. That a
framing error or a gap comes as one command, with no partial telegram held, is the model's choice (log 26). -/
def Obligations.DroppedTelegramsAreCounted : Prop :=
  (∀ (s : State) (kind : Byte) (address : Word) (value check : Byte) (e : Nat) (r : Element), NoTriggerWaits s →
    Selects s kind address value check e → s.element e = some r → kind = 0x11 ∨ kind = 0x12 ∨ kind = 0x13 →
    (r.body = .none → exec (.fieldStatusTelegram kind address value check) s
      = .next { s with fi := { s.fi with unmapped := min 65535 (s.fi.unmapped + 1) } })
    ∧ ((∃ b, r.body = .sect b ∧ kind ≠ 0x11) ∨ (∃ b, r.body = .points b ∧ kind ≠ 0x12)
        ∨ (∃ b, r.body = .signal b ∧ kind ≠ 0x13) ∨ (∃ b, r.body = .boundary b) →
      (r.faults.kindMismatchSeen = true → exec (.fieldStatusTelegram kind address value check) s
        = .next { s with fi := { s.fi with kindMismatch := min 65535 (s.fi.kindMismatch + 1) } })
      ∧ (r.faults.kindMismatchSeen = false → exec (.fieldStatusTelegram kind address value check) s
        = .next { s with
            fi := { s.fi with kindMismatch := min 65535 (s.fi.kindMismatch + 1) }
            es := s.es.adjust e fun r => { r with faults := { r.faults with kindMismatchSeen := true } }
            cp := { s.cp with latches := s.cp.latches ||| 0x004 } })))
  ∧ ∀ s : State, s.mode = .operating ∨ s.mode = .halted → NoTriggerWaits s →
    (∀ (kind : Byte) (address : Word) (value check : Byte),
      (check ≠ fieldCheck kind address value ∨ (kind ≠ 0x11 ∧ kind ≠ 0x12 ∧ kind ≠ 0x13) →
        exec (.fieldStatusTelegram kind address value check) s
          = .next { s with fi := { s.fi with badCheck := min 65535 (s.fi.badCheck + 1) } })
      ∧ (check = fieldCheck kind address value → kind = 0x11 ∨ kind = 0x12 ∨ kind = 0x13 →
          (∀ e, selectElement s.fi.map address = some e → 511 < e ∨ s.element e = none) →
        exec (.fieldStatusTelegram kind address value check) s
          = .next { s with fi := { s.fi with unmapped := min 65535 (s.fi.unmapped + 1) } }))
    ∧ exec .fieldFramingError s = .next { s with fi := { s.fi with badCheck := min 65535 (s.fi.badCheck + 1) } }
    ∧ exec .fieldCharacterGap s = .next { s with fi := { s.fi with badCheck := min 65535 (s.fi.badCheck + 1) } }

/-- A valid status is written, with its degraded value outside the kind's set, and the element's supervision timer
starts again; the counters and the store stay. Points: a throw completes with its elapsed time offered to the capture, a
detection met at rest is judged against the demand (R36, R38). Signals: PROCEED proves a signal while the proving timer
runs, is a wrong aspect while STOP is demanded with no return window, and an aspect outside the set is DARK (R40 to
R42). A route record: the proof clears it, the loss of proof replaces it, the train enters it, releases its steps or
makes a discrepancy, starts or overruns its overlap, and with its last step it ends (R98 to R100, R103, R105 to R111). A
record in CLEARING or CLEARED is replaced by a status that makes a clearing condition fail: NOT_DETECTED for its points,
NOT_CLEAR for a section of its path or overlap, FLANK_LOST for a claim that it holds a reference by (R95, R96, R100).
One in CLEARING that the train's entry replaces goes on to IN_USE where PROCEED is shown at that moment, and stays in
LOCKED where it is not, though an earlier clearing may have set its shown-proceed flag: that reading of R103 is the
model's (log 19, DEDUCED). That RSV has a change before FU, so that the entry of the train leaves the replaced reason as
it was, is log 7. -/
def Obligations.ValidStatusIsWritten : Prop :=
  (∀ (s : State) (address : Word) (value check : Byte) (e : Nat),
    (∀ b, Selects s 0x11 address value check e → s.sectionAt e = some b →
      ∃ t, exec (.fieldStatusTelegram 0x11 address value check) s = .next t
        ∧ t.sectionAt e = some { b with
            occupancy := if value = 0 then .clear else if value = 1 then .occupied else .unknown,
            supervision := some (max 5 (min 50 b.timeout.toNat)) }
        ∧ t.ts = s.ts ∧ t.fi.unmapped = s.fi.unmapped ∧ t.fi.kindMismatch = s.fi.kindMismatch
        ∧ t.fi.badCheck = s.fi.badCheck)
    ∧ (∀ b, Selects s 0x12 address value check e → s.pointsAt e = some b →
      ∃ t, exec (.fieldStatusTelegram 0x12 address value check) s = .next t
        ∧ t.detection e = (if value = 1 then .normal else if value = 2 then .reverse else .noDetection)
        ∧ (t.pointsAt e).map (·.supervision) = some (some (max 5 (min 50 b.timeout.toNat)))
        ∧ t.ts = s.ts ∧ t.fi.unmapped = s.fi.unmapped ∧ t.fi.kindMismatch = s.fi.kindMismatch
        ∧ t.fi.badCheck = s.fi.badCheck)
    ∧ (∀ b, Selects s 0x13 address value check e → s.signalAt e = some b →
      ∃ t, exec (.fieldStatusTelegram 0x13 address value check) s = .next t
        ∧ t.shown e = (if value = 0 then .stop else if value = 1 then .proceed else .dark)
        ∧ (t.signalAt e).map (·.supervision) = some (some (max 5 (min 50 b.timeout.toNat)))
        ∧ t.ts = s.ts ∧ t.fi.unmapped = s.fi.unmapped ∧ t.fi.kindMismatch = s.fi.kindMismatch
        ∧ t.fi.badCheck = s.fi.badCheck))
  -- points
  ∧ (∀ (s : State) (address : Word) (value check : Byte) (e : Nat) (r : Element) (b : PointsBody),
    Selects s 0x12 address value check e → NothingStored s → s.element e = some r → r.body = .points b →
    ∃ t r' b', exec (.fieldStatusTelegram 0x12 address value check) s = .next t
      ∧ t.element e = some r' ∧ r'.body = .points b' ∧ b'.demanded = b.demanded
      ∧ (∀ p, b.moving = true → b.demanded = some p → b.detection ≠ p.detection →
          (value = (if p = .normal then 1 else 2) →
            b'.moving = false ∧ b'.throwTimer = none ∧ r'.faults = r.faults
            ∧ (b.captureHeld = true → b'.captureHeld = true ∧ b'.captureMissed = true
                ∧ b'.captureValue = b.captureValue)
            ∧ (b.captureHeld = false → b'.captureHeld = true ∧ b'.captureMissed = b.captureMissed
                ∧ b'.captureValue = min 150 (max 10 (min 150 b.throwLimit.toNat) - b.throwTimer.getD 0)
                ∧ t.cp.latches.getLsbD 7 = true))
          ∧ (value ≠ (if p = .normal then 1 else 2) →
            b'.moving = true ∧ b'.throwTimer = b.throwTimer ∧ r'.faults = r.faults ∧ b'.captureHeld = b.captureHeld))
      ∧ (b.moving = false → b'.moving = false ∧ b'.captureHeld = b.captureHeld
          ∧ (value ≠ 1 → value ≠ 2 →
              (b.detection = .normal ∨ b.detection = .reverse → r'.faults.detectionLost = true)
              ∧ (b.detection = .noDetection ∨ b.detection = .unknown → r'.faults = r.faults))
          ∧ ∀ q : Position, value = (if q = .normal then 1 else 2) →
              (b.demanded = none ∨ b.demanded = some q → r'.faults = r.faults)
              ∧ (∀ p, b.demanded = some p → p ≠ q → b.detection ≠ q.detection →
                  r'.faults.unsolicitedMove = true ∧ (t.fi.demands.find e).isSome)))
  -- signals, and the records that they are the entry signals of
  ∧ (∀ (s : State) (address : Word) (value check : Byte) (e : Nat) (r : Element) (b : SignalBody),
    Selects s 0x13 address value check e → NothingStored s → s.element e = some r → r.body = .signal b →
    ∃ t r' b', exec (.fieldStatusTelegram 0x13 address value check) s = .next t
      ∧ t.element e = some r' ∧ r'.body = .signal b'
      ∧ (value ≠ 0 → value ≠ 1 → r'.faults.dark = true)
      ∧ (value = 1 → b.demanded = .stop → b.returnWindow = none →
          r'.faults.wrongAspect = true ∧ (t.fi.demands.find e).isSome)
      ∧ (value = 0 ∨ (value = 1 ∧ (b.demanded = .proceed ∨ b.returnWindow.isSome)) → r'.faults = r.faults)
      ∧ (s.claimOn e = none →
          (value = 1 → b.proving.isSome → b.demanded = .proceed →
            b'.proven = true ∧ b'.proving = none ∧ b'.demanded = .proceed
            ∧ ∀ slot q, s.routeRecord slot = some q → q.definition.entry = e → q.state = .clearing →
                t.routeRecord slot = some { q with state := .cleared, shownProceed := true })
          ∧ (value = 1 → b.shown ≠ .proceed → ∀ slot q, s.routeRecord slot = some q → q.definition.entry = e →
              q.state = .locked → q.replaced.isSome → s.occupancy q.definition.firstSection ≠ .occupied →
              t.routeRecord slot = some { q with shownProceed := true })
          ∧ (value ≠ 1 → b'.proven = false ∧ b'.proving = (if b'.demanded = b.demanded then b.proving else none)
            ∧ b'.returnWindow = none
            ∧ (b.shown = .proceed → b.proven = true → ∀ slot q, s.routeRecord slot = some q →
                q.definition.entry = e → q.state = .cleared →
                t.routeRecord slot = some { q with state := .locked, replaced := some (.signalLost, e) }
                ∧ b'.demanded = .stop ∧ t.cp.latches.getLsbD 1 = true))))
  -- records in CLEARING and CLEARED
  ∧ (∀ (s : State) (address : Word) (value check : Byte) (e slot : Nat) (q : RouteRecord),
    NothingStored s → ClaimsAgree s → Ascending s.rsv → StandsClear s slot q →
    (Selects s 0x12 address value check e →
      DetectionReplaces s (.fieldStatusTelegram 0x12 address value check) e
        (if value = 1 then .normal else if value = 2 then .reverse else .noDetection) slot q)
    ∧ (Selects s 0x11 address value check e →
      OccupancyReplaces s (.fieldStatusTelegram 0x11 address value check) e
        (if value = 0 then .clear else if value = 1 then .occupied else .unknown) slot q)
    ∧ (Selects s 0x13 address value check e → value = 1 →
      AspectReplaces s (.fieldStatusTelegram 0x13 address value check) e slot q))
  -- sections of a record
  ∧ ∀ (s : State) (address : Word) (value check : Byte) (e : Nat) (b : SectionBody) (slot : Nat) (q : RouteRecord),
    Selects s 0x11 address value check e → NothingStored s → Ascending s.rsv → s.sectionAt e = some b →
    s.routeRecord slot = some q →
    (value = 1 → b.occupancy ≠ .occupied → q.definition.firstSection = e → q.steps ≠ [] →
        s.lockOf q.definition.entry = some (.route slot .path) →
        q.state = .cleared ∨ (q.state = .locked ∧ q.shownProceed = true) ∨ q.state = .approachHold →
      ∃ t q', exec (.fieldStatusTelegram 0x11 address value check) s = .next t
        ∧ t.routeRecord slot = some q' ∧ q'.state = .inUse ∧ q'.frontSeen = true ∧ q'.holdTimer = none
        ∧ q'.steps = q.steps
        ∧ q'.replaced = (if q.state = .approachHold then some (.enteredDuringHold, e) else q.replaced)
        ∧ (q.state = .cleared → ∀ x, t.signalAt q.definition.entry = some x → x.demanded = .stop))
    ∧ (q.state = .inUse → q.discrepancy = true →
      ∃ t q', exec (.fieldStatusTelegram 0x11 address value check) s = .next t
        ∧ t.routeRecord slot = some q' ∧ q' = { q with flanks := q'.flanks })
    ∧ (q.state = .inUse → q.discrepancy = false →
      (value = 1 → b.occupancy ≠ .occupied →
          (e ∈ q.definition.overlap.map (·.element) → q.overlapStatus = .held ∨ q.overlapStatus = .timing →
            ∃ t q', exec (.fieldStatusTelegram 0x11 address value check) s = .next t
              ∧ t.routeRecord slot = some q' ∧ q'.overlapStatus = .overrun ∧ q'.overlapTimer = none
              ∧ q'.state = .inUse ∧ q'.steps = q.steps)
          ∧ (e = q.definition.lastSection → e ∉ q.definition.overlap.map (·.element) → q.overlapStatus = .held →
              q.definition.overlapTime ≠ 0 →
            ∃ t q', exec (.fieldStatusTelegram 0x11 address value check) s = .next t
              ∧ t.routeRecord slot = some q' ∧ q'.overlapStatus = .timing
              ∧ q'.overlapTimer = some (10 * q.definition.overlapTime.toNat)
              ∧ q'.state = .inUse ∧ q'.steps = q.steps))
      ∧ (value = 0 → b.occupancy ≠ .clear → q.frontSeen = true →
          (∀ st next rest, q.steps = st :: next :: rest → st.sect = e →
            (next.sect ≠ e → s.occupancy next.sect = .occupied →
              ∃ t q', exec (.fieldStatusTelegram 0x11 address value check) s = .next t
                ∧ t.routeRecord slot = some q' ∧ q'.steps = next :: rest ∧ q'.frontSeen = true ∧ q'.state = .inUse
                ∧ ∀ x, x ∈ e :: st.points.map (·.1) →
                    t.lockOf x ≠ some (.route slot .path) ∧ t.lockOf x ≠ some (.route slot .overlap))
            ∧ (next.sect = e ∨ s.occupancy next.sect ≠ .occupied →
              ∃ t q', exec (.fieldStatusTelegram 0x11 address value check) s = .next t
                ∧ t.routeRecord slot = some q' ∧ q'.discrepancy = true ∧ q'.replaced = some (.passage, e)
                ∧ q'.steps = q.steps ∧ q'.state = .inUse ∧ q'.overlapTimer = none
                ∧ q'.overlapStatus = (if q.overlapStatus = .timing then .held else q.overlapStatus)
                ∧ t.cp.latches.getLsbD 1 = true))
          ∧ (∀ st, q.steps = [st] → st.sect = e → q.overlapStatus = .released →
              (∀ slot' x, s.routeRecord slot' = some x → x.route = q.route → slot' = slot) →
              (q.definition.line = none ∧ q.handover = none
                  ∧ ∃ x, q.definition.beyond = some x ∧ x ≠ e ∧ s.occupancy x = .occupied)
                ∨ (q.definition.line.isSome ∧ s.remoteImage q.definition.exit = .occupied) →
            ∃ t, exec (.fieldStatusTelegram 0x11 address value check) s = .next t
              ∧ t.routeRecord slot = none ∧ t.lockOf q.definition.entry ≠ some (.route slot .path)
              ∧ (∀ x, s.rse.table.find q.route = some x →
                  t.rse.table.find q.route = some { x with outcome := some .released, unread := true })
              ∧ ∀ h x, q.handover = some h → s.line h.line = some x →
                  (t.line h.line).map (fun y => (y.outOffer, y.transit)) = some (none, false))))

/-- A demand telegram is built from the next pending entry after the one last sent, round from 511 to 0, with the demand
as it stands; the entry leaves the set and the refresh timer restarts. The telegram joins the list of those not yet
read, which is the model's own (log 17). -/
def Obligations.DemandTelegramIsSent : Prop :=
  ∀ (s : State) (e : Nat) (p : PendingDemand), s.fi.demands.find e = some p → Ascending s.fi.demands →
    (s.fi.lastSent < e ∧ (∀ e', (s.fi.demands.find e').isSome → s.fi.lastSent < e' → e ≤ e')
      ∨ e ≤ s.fi.lastSent ∧ ∀ e', (s.fi.demands.find e').isSome → e ≤ e' ∧ e' ≤ s.fi.lastSent) →
    ∃ (t : State) (kind value : Byte), exec .demandTelegramBuild s = .next t
      ∧ t.fi = { s.fi with
          demands := s.fi.demands.remove e, lastSent := e,
          out := s.fi.out ++ [[kind, p.address.extractLsb' 8 8, p.address.extractLsb' 0 8, value,
            ~~~(kind ^^^ p.address.extractLsb' 8 8 ^^^ p.address.extractLsb' 0 8 ^^^ value)]] }
      ∧ (p.kind = .points → kind = 0x22 ∧ ∀ b q, s.pointsAt e = some b → b.demanded = some q →
          value = (if q = .normal then 1 else 2) ∧ t.pointsAt e = some { b with refresh := some 10 })
      ∧ (p.kind = .signal → kind = 0x23 ∧ (s.element e = none → value = 0) ∧ ∀ b, s.signalAt e = some b →
          value = (if b.demanded = .stop then 0 else 1) ∧ t.signalAt e = some { b with refresh := some 10 })
      ∧ (∀ e', e' ≠ e → t.element e' = s.element e')
      ∧ t.cp = s.cp ∧ t.ts = s.ts ∧ t.rse = s.rse ∧ t.rsv = s.rsv ∧ t.fu = s.fu ∧ t.lk = s.lk ∧ t.bu = s.bu

/-- The supervision timer of an element expires: it stops, SUPERVISION_LOST is latched, and UNKNOWN is in the kind
state; points at rest in a detected position latch DETECTION_LOST too, and a signal is no longer proven. A record in
CLEARING or CLEARED whose clearing condition then fails is replaced, as by a status, and one in CLEARED whose proven
entry signal is UNKNOWN with SIGNAL_LOST (R95, R96, R100). The throw timer of moving points expires: it stops, the
moving flag clears and THROW_FAILED is latched, with detection as it stood; a record in SETTING or HANDOVER_WAIT that
requires the points fails with THROW_FAILED; that it has the event before FU, whose search could fail it with FLANK, is
the model's choice (log 28). A fault flag that was clear latches ELEMENT_FAULT. -/
def Obligations.FieldTimersLatchFaults : Prop :=
  (∀ (s : State) (e : Nat),
    (∀ b, s.sectionAt e = some b → b.supervision = some 0 →
      ∃ t r, exec (.supervisionTimerExpiry e) s = .next t ∧ t.element e = some r
        ∧ r.faults.supervisionLost = true ∧ t.occupancy e = .unknown ∧ t.ts = s.ts
        ∧ t.sectionAt e = some { b with occupancy := .unknown, supervision := none }
        ∧ ∀ x, s.element e = some x → x.faults.supervisionLost = false → t.cp.latches.getLsbD 2 = true)
    ∧ (∀ b, s.pointsAt e = some b → b.supervision = some 0 →
      ∃ t r, exec (.supervisionTimerExpiry e) s = .next t ∧ t.element e = some r
        ∧ r.faults.supervisionLost = true ∧ t.detection e = .unknown ∧ t.ts = s.ts
        ∧ (t.pointsAt e).map (·.supervision) = some none
        ∧ (b.moving = false → b.detection = .normal ∨ b.detection = .reverse → r.faults.detectionLost = true)
        ∧ ∀ x, s.element e = some x → x.faults.supervisionLost = false → t.cp.latches.getLsbD 2 = true)
    ∧ (∀ b, s.signalAt e = some b → b.supervision = some 0 →
      ∃ t r, exec (.supervisionTimerExpiry e) s = .next t ∧ t.element e = some r
        ∧ r.faults.supervisionLost = true ∧ t.shown e = .unknown ∧ t.ts = s.ts
        ∧ (t.signalAt e).map (fun x => (x.supervision, x.proven)) = some (none, false)
        ∧ (NothingStored s → (t.signalAt e).map (·.returnWindow) = some none)
        ∧ ∀ x, s.element e = some x → x.faults.supervisionLost = false → t.cp.latches.getLsbD 2 = true)
    ∧ (∀ b, s.pointsAt e = some b → b.moving = true → b.throwTimer = some 0 →
      ∃ t r, exec (.throwTimerExpiry e) s = .next t ∧ t.element e = some r ∧ r.faults.throwFailed = true
        ∧ t.detection e = b.detection ∧ t.ts = s.ts
        ∧ (NothingStored s → s.claimOn e = none →
            t.pointsAt e = some { b with moving := false, throwTimer := none })
        ∧ ∀ x, s.element e = some x → x.faults.throwFailed = false → t.cp.latches.getLsbD 2 = true))
  ∧ (∀ (s : State) (e slot : Nat) (q : RouteRecord),
    NothingStored s → ClaimsAgree s → Ascending s.rsv → StandsClear s slot q →
    (∀ b, s.pointsAt e = some b → b.supervision = some 0 →
      DetectionReplaces s (.supervisionTimerExpiry e) e .unknown slot q)
    ∧ (∀ b, s.sectionAt e = some b → b.supervision = some 0 →
      OccupancyReplaces s (.supervisionTimerExpiry e) e .unknown slot q)
    ∧ (∀ b, s.signalAt e = some b → b.supervision = some 0 →
      AspectReplaces s (.supervisionTimerExpiry e) e slot q
      ∧ (q.state = .cleared → q.definition.entry = e → b.proven = true → b.shown = .proceed →
        ∃ t, exec (.supervisionTimerExpiry e) s = .next t ∧ Replaced s t slot q .signalLost e)))
  ∧ ∀ (s : State) (e : Nat) (b : PointsBody) (slot : Nat) (q : RouteRecord), s.pointsAt e = some b → b.moving = true →
    b.throwTimer = some 0 → NothingStored s → s.routeRecord slot = some q → OnlyRecordOf s slot q →
    q.state = .setting ∨ q.state = .handoverWait → (q.definition.required e).isSome →
    ∃ t, exec (.throwTimerExpiry e) s = .next t ∧ t.routeRecord slot = none
      ∧ OutcomeWritten s t q.route (.failed .throwFailed (some e))
      ∧ ∀ x, HeldBy q x → t.lockOf x ≠ some (.route slot .path) ∧ t.lockOf x ≠ some (.route slot .overlap)

/-- The signal timers: a proving timer that expires stops and latches NOT_PROVEN, with ELEMENT_FAULT where the flag was
clear, and the record in CLEARING that the signal is the entry signal of is replaced with NOT_PROVEN and the signal,
which is demanded STOP (R40, R100); where PROCEED is shown and the train stands in the first section, the record goes on
to IN_USE (R103), and where PROCEED is not shown it stays in LOCKED, though an earlier clearing may have set its
shown-proceed flag (log 19, DEDUCED). A return window that expires stops, and a PROCEED still shown latches WRONG_ASPECT
and renews STOP. The refresh timer of a signal, or of points with a demand, expires: the element joins the pending
demands. -/
def Obligations.SignalAndRefreshTimersExpire : Prop :=
  (∀ (s : State) (e : Nat),
    (∀ b, s.signalAt e = some b → b.refresh = some 0 →
      ∃ t, exec (.refreshTimerExpiry e) s = .next t ∧ (t.fi.demands.find e).isSome
        ∧ t.signalAt e = some { b with refresh := none }
        ∧ t.cp = s.cp ∧ t.ts = s.ts ∧ t.rse = s.rse ∧ t.rsv = s.rsv ∧ t.fu = s.fu ∧ t.lk = s.lk ∧ t.bu = s.bu)
    ∧ (∀ b, s.pointsAt e = some b → b.refresh = some 0 → b.demanded.isSome →
      ∃ t, exec (.refreshTimerExpiry e) s = .next t ∧ (t.fi.demands.find e).isSome
        ∧ t.pointsAt e = some { b with refresh := none }
        ∧ t.cp = s.cp ∧ t.ts = s.ts ∧ t.rse = s.rse ∧ t.rsv = s.rsv ∧ t.fu = s.fu ∧ t.lk = s.lk ∧ t.bu = s.bu))
  ∧ ∀ (s : State) (e : Nat) (r : Element) (b : SignalBody), s.element e = some r → r.body = .signal b →
    (b.proving = some 0 →
      ∃ t r', exec (.provingTimerExpiry e) s = .next t ∧ t.element e = some r' ∧ r'.faults.notProven = true
        ∧ t.shown e = b.shown ∧ t.ts = s.ts
        ∧ (r.faults.notProven = false → t.cp.latches.getLsbD 2 = true)
        ∧ (NothingStored s → (t.signalAt e).map (·.proving) = some none
          ∧ ∀ slot q, s.routeRecord slot = some q → q.definition.entry = e → q.state = .clearing →
            (b.shown ≠ .proceed ∨ s.occupancy q.definition.firstSection ≠ .occupied →
              Replaced s t slot q .notProven e)
            ∧ (b.shown = .proceed → s.occupancy q.definition.firstSection = .occupied → q.steps ≠ [] →
              ∃ q', t.routeRecord slot = some q' ∧ q'.state = .inUse ∧ q'.replaced = some (.notProven, e)
                ∧ q'.frontSeen = true ∧ q'.shownProceed = true ∧ t.cp.latches.getLsbD 1 = true
                ∧ ∀ x, t.signalAt e = some x → x.demanded = .stop)))
    ∧ (b.returnWindow = some 0 → b.demanded = .stop →
      ∃ t, exec (.returnWindowExpiry e) s = .next t
        ∧ (b.shown ≠ .proceed → t.element e = some { r with body := .signal { b with returnWindow := none } }
            ∧ t.cp = s.cp ∧ t.fi = s.fi)
        ∧ (b.shown = .proceed → t.element e = some { r with
              faults := { r.faults with wrongAspect := true }
              body := .signal { b with returnWindow := none, proven := false } }
            ∧ (t.fi.demands.find e).isSome)
        ∧ (∀ e', e' ≠ e → t.element e' = s.element e') ∧ t.ts = s.ts ∧ t.rse = s.rse ∧ t.rsv = s.rsv ∧ t.fu = s.fu ∧ t.lk = s.lk ∧ t.bu = s.bu)

/-! Routes. -/

/-- The examination of a route takes the checks in order and gives the reason and element of the first that fails; of a
check over several elements, the first of them. Check 1 names no element for a withdrawn definition, then the tied
element of the first withdrawn flank group, then the exit for a withdrawn line, then the first withdrawn one of exit,
beyond section and approach list; check 8 searches each reference with the choices of the earlier ones. SET_ROUTE
answered without a take: the immediate refusals in order, the refusal of a failing check that does not wait or with
NO_STORE, and the stored request at the queue's tail with QUEUE_NEARLY_FULL at 15. -/
def Obligations.SetRouteRefusedOrStored : Prop :=
  (∀ (s : State) (route : Nat) (r : RouteEntry), s.rse.table.find route = some r →
    r.definition = none ∨ r.available = false → s.examine route = .error (.unavailable, none))
  ∧ (∀ (d : Definition) (i : Nat) (x : PathEntry), (i < 24 ∧ d.path[i]? = some x) ∨ (24 ≤ i ∧ d.overlap[i - 24]? = some x) →
    d.tiedElement i = x.element)
  ∧ (∀ (s : State) (route : Nat) (r : RouteEntry) (d : Definition), s.rse.table.find route = some r →
    r.definition = some d →
    (¬ RouteAvailable s r d → ∃ e, s.examine route = .error (.unavailable, e))
    ∧ (r.available = true →
      (∀ f, FirstFailing d.flanks (fun f => ∀ g, s.fu.groups.find f.1 = some g → g.available = true) f →
        s.examine route = .error (.unavailable, some (d.tiedElement f.2)))
      ∧ ((∀ f ∈ d.flanks, ∀ g, s.fu.groups.find f.1 = some g → g.available = true) →
        (∀ l x, d.line = some l → s.line l = some x → x.withdrawn = true →
          s.examine route = .error (.unavailable, some d.exit))
        ∧ ((∀ l x, d.line = some l → s.line l = some x → x.withdrawn = false) →
          ∀ e, FirstFailing (d.exit :: d.beyond.toList ++ d.approach)
              (fun e => ∀ x, s.element e = some x → x.withdrawn = false) e →
            s.examine route = .error (.unavailable, some e))))
    ∧ (RouteAvailable s r d → ¬ EntryFree s d → s.examine route = .error (.entryHeld, some d.entry))
    ∧ (RouteAvailable s r d → EntryFree s d →
      (∀ pre e post x, d.entry :: (d.path ++ d.overlap).map (·.element) = pre ++ e :: post →
        (∀ e', e' ∈ pre → InService s e') → s.element e = some x → x.withdrawn = true ∨ x.blocked = true →
        s.examine route = .error (if x.withdrawn then .unavailable else .blocked, some e))
      ∧ ((∀ e, e ∈ d.entry :: (d.path ++ d.overlap).map (·.element) → InService s e) →
        (∀ pre x post, d.path ++ d.overlap = pre ++ x :: post → (∀ y, y ∈ pre → Unlocked s y) → ¬ Unlocked s x →
          s.examine route = .error (.locked, some x.element))
        ∧ ((∀ x, x ∈ d.path ++ d.overlap → Unlocked s x) →
          (∀ pre x post, d.path ++ d.overlap = pre ++ x :: post → (∀ y, y ∈ pre → SectionIsClear s y) →
            ¬ SectionIsClear s x → s.examine route
              = .error (if s.occupancy x.element = .occupied then .occupied else .unknown, some x.element))
          ∧ ((∀ x, x ∈ d.path ++ d.overlap → SectionIsClear s x) →
            (∀ pre x post, d.path ++ d.overlap = pre ++ x :: post → (∀ y, y ∈ pre → Unclaimed s y) →
              ¬ Unclaimed s x → s.examine route = .error (.claimed, some x.element))
            ∧ ((∀ x, x ∈ d.path ++ d.overlap → Unclaimed s x) →
              (¬ LinkReady s d → s.examine route = .error (.linkDown, some d.exit))
              ∧ (LinkReady s d →
                (∀ pre f post xs, d.flanks = pre ++ f :: post → s.chooseFlanks d pre [] = .ok xs →
                  s.search (.candidate d (localChoices xs)) f.1 1 = none →
                  s.examine route = .error (.flank, some (d.tiedElement f.2)))
                ∧ ∀ xs, s.chooseFlanks d d.flanks [] = .ok xs →
                  ((∀ n, n < 48 → (s.routeRecord n).isSome) → s.examine route = .error (.recordsFull, none))
                  ∧ ((∃ n, n < 48 ∧ s.routeRecord n = none) →
                    (128 - s.fu.claims.length < s.newClaims xs → s.examine route = .error (.claimTableFull, none))
                    ∧ (s.newClaims xs ≤ 128 - s.fu.claims.length → s.examine route = .ok (d, xs))))))))))
  ∧ ∀ (s : State) (route : Word) (options : Byte), Receives s [.operating] → NoTriggerWaits s →
    (383 < route.toNat ∨ s.rse.table.find route.toNat = none →
      exec (.setRoute route options) s = .next (refused s 0x01))
    ∧ (route.toNat ≤ 383 → (s.rse.table.find route.toNat).isSome →
      ((s.activeRecord route.toNat).isSome → exec (.setRoute route options) s = .next (refused s 0x02))
      ∧ (s.activeRecord route.toNat = none →
        ((s.rse.queue.any fun q => q.route == route.toNat) = true →
          exec (.setRoute route options) s = .next (refused s 0x03))
        ∧ ((s.rse.queue.any fun q => q.route == route.toNat) = false →
          (16 ≤ s.rse.queue.length → exec (.setRoute route options) s = .next (refused s 0x04))
          ∧ (s.rse.queue.length < 16 → ∀ reason e, s.examine route.toNat = .error (reason, e) →
            (reason.waitable = false ∨ options.getLsbD 1 = true → exec (.setRoute route options) s
              = .next (answered s 0x03 (reason.code :: elementBytes e)))
            ∧ (reason.waitable = true → options.getLsbD 1 = false → exec (.setRoute route options) s
              = .next (answered { s with
                  rse := { s.rse with queue := s.rse.queue ++
                    [{ route := route.toNat, hold := options.getLsbD 0, timer := some 600, reason := reason,
                       element := e }] }
                  cp := { s.cp with latches :=
                    if s.rse.queue.length = 14 then s.cp.latches ||| 0x008 else s.cp.latches } }
                0x02 [BitVec.ofNat 8 (s.rse.queue.length + 1)]))))))

/-- SET_ROUTE on a route that passes every check is taken into the lowest free slot and answered SET with it. A take
locks the entry signal and the path to its slot in role PATH and the overlap in role OVERLAP. It demands the required
position of every path and overlap points, which throw where they are not in it; makes a claim or joins a remote item for
each choice; and has the handover of a boundary route offered, or the direction asked for. The record holds the values of
R57, its steps the path's; it is in HANDOVER_WAIT for a boundary route, else in SETTING, or with every point in position
and every reference HELD in LOCKED with outcome SET, or in CLEARING where it does not hold its signal and every clearing
condition holds (R59, R97). Points that come into the position a lone record in SETTING waits for move it on in the same
way. A route that passes is available, its entry signal free, its elements in service, not locked, the sections CLEAR,
not claimed otherwise, its link UP, with a route slot and an alternative for each flank reference. -/
def Obligations.SetRouteTakesAndLocks : Prop :=
  (∀ (s : State) (route : Nat) (d : Definition) (xs : List (Nat × Alternative)), s.examine route = .ok (d, xs) →
    ∃ r, s.rse.table.find route = some r ∧ r.definition = some d ∧ RouteAvailable s r d ∧ EntryFree s d
      ∧ (∀ e, e ∈ d.entry :: (d.path ++ d.overlap).map (·.element) → InService s e)
      ∧ (∀ x, x ∈ d.path ++ d.overlap → Unlocked s x ∧ SectionIsClear s x ∧ Unclaimed s x)
      ∧ LinkReady s d ∧ (∃ n, n < 48 ∧ s.routeRecord n = none)
      ∧ s.newClaims xs ≤ 128 - s.fu.claims.length ∧ xs.length = d.flanks.length
      ∧ ∀ (i : Nat) (f : Nat × Nat) (x : Nat × Alternative), d.flanks[i]? = some f → xs[i]? = some x →
          ∃ g, s.fu.groups.find f.1 = some g ∧ g.available = true ∧ 1 ≤ x.1 ∧ g.alternatives[x.1 - 1]? = some x.2)
  ∧ (∀ (s : State) (route slot : Nat) (hold : Bool) (d : Definition) (xs : List (Nat × Alternative)),
    s.examine route = .ok (d, xs) → s.rsv.lowestFree 48 = some slot →
    (∀ e, e = d.entry ∨ e ∈ d.path.map (·.element) → (s.element e).isSome →
      (s.take route hold slot d xs).lockOf e = some (.route slot .path))
    ∧ (∀ e, e ∈ d.overlap.map (·.element) → e ≠ d.entry → e ∉ d.path.map (·.element) → (s.element e).isSome →
      (s.take route hold slot d xs).lockOf e = some (.route slot .overlap)))
  -- the record
  ∧ (∀ (s t : State) (route slot : Nat) (hold : Bool) (d : Definition) (xs : List (Nat × Alternative)),
    s.examine route = .ok (d, xs) → s.rsv.lowestFree 48 = some slot → t = s.take route hold slot d xs →
    ∃ q, t.routeRecord slot = some q ∧ q.route = route ∧ q.hold = hold ∧ q.shownProceed = false ∧ q.replaced = none
      ∧ q.frontSeen = false ∧ q.overlapTimer = none ∧ q.holdTimer = none ∧ q.discrepancy = false ∧ q.definition = d
      ∧ q.overlapStatus = (if d.overlap = [] then .released else .held)
      ∧ ((∀ x, d.path.head? = some x → x.position = none) →
        q.steps.flatMap (fun st => { element := st.sect, position := none }
          :: st.points.map fun p => { element := p.1, position := some p.2 }) = d.path)
      ∧ q.flanks.length = d.flanks.length
      ∧ (∀ (i : Nat) (f : Nat × Nat) (x : Nat × Alternative), d.flanks[i]? = some f → xs[i]? = some x →
        ∃ st, st ≠ .released
          ∧ q.flanks[i]? = some { group := f.1, tied := f.2, alternative := some x.1, state := st })
      ∧ (d.line.isSome → q.state = .handoverWait)
      ∧ (d.line = none → q.handover = none
        ∧ (¬ ((∀ x p, x ∈ d.path ++ d.overlap → x.position = some p → s.detection x.element = p.detection)
            ∧ ∀ f, f ∈ q.flanks → f.state = .held) → q.state = .setting)
        ∧ ((∀ x p, x ∈ d.path ++ d.overlap → x.position = some p → s.detection x.element = p.detection) →
          (∀ f, f ∈ q.flanks → f.state = .held) →
          q.state = (if s.mode = .operating ∧ hold = false ∧ t.conditionFailure slot q = none then .clearing else .locked)
          ∧ OutcomeWritten s t route .set)))
  -- the points, the claims and the handover
  ∧ (∀ (s t : State) (route slot : Nat) (hold : Bool) (d : Definition) (xs : List (Nat × Alternative)),
    s.examine route = .ok (d, xs) → s.rsv.lowestFree 48 = some slot → t = s.take route hold slot d xs →
    (((d.path ++ d.overlap).map (·.element)).Nodup → ∀ x p b, x ∈ d.path ++ d.overlap → x.position = some p →
      s.pointsAt x.element = some b → ∃ b', t.pointsAt x.element = some b' ∧ b'.demanded = some p
        ∧ b'.detection = b.detection ∧ b'.moving = decide (b.detection ≠ p.detection)
        ∧ (b.detection ≠ p.detection → b'.throwTimer = some (max 10 (min 150 b.throwLimit.toNat)))
        ∧ (b.detection ≠ p.detection ∨ b.demanded ≠ some p → (t.fi.demands.find x.element).isSome))
    ∧ (ClaimsAgree s → ∀ (i n e : Nat) (dem : Demand), xs[i]? = some (n, .localAlt e dem) →
      ∃ c y u, t.claimOn e = some (c, y) ∧ y.element = e ∧ y.demand = dem ∧ .route slot u ∈ y.holders)
    ∧ (∀ (i n l k : Nat), xs[i]? = some (n, .remoteAlt l k) → (slot, i) ∈ (t.item l k).refs
      ∧ ((t.item l k).state = .asked ∨ (t.item l k).state = .granted))
    ∧ ∀ l r x, d.line = some l → s.line l = some r → r.token = .rest x → ∃ q, t.routeRecord slot = some q
      ∧ (x = .outward → r.conflict = false →
        q.handover = some { line := l, offer := some r.nextOffer, status := .offered }
        ∧ t.line l = some { r with
            nextOffer := r.nextOffer + 1
            outOffer := some { number := r.nextOffer, slot := some slot, state := .offered, deadline := some 150 } })
      ∧ (x ≠ .outward ∨ r.conflict = true → q.handover = some { line := l, offer := none, status := .direction }
        ∧ ∃ r', t.line l = some r' ∧ r'.token = .asking x ∧ r'.outOffer = r.outOffer
          ∧ r'.inOffer = r.inOffer.filter (·.accepted)
          ∧ r'.ask = some {
              slot := slot
              word := BitVec.ofNat 16 ((15 - min 3 d.priority) * 4096 + s.areaId.toNat)
              deadline := some 50 }))
  -- SETTING to LOCKED and on
  ∧ (∀ (s : State) (address : Word) (value check : Byte) (e : Nat) (b : PointsBody) (p : Position) (slot : Nat)
    (q : RouteRecord), Selects s 0x12 address value check e → NothingStored s → s.pointsAt e = some b →
    s.claimOn e = none → value = (if p = .normal then 1 else 2) → b.detection ≠ p.detection → s.rsv = [(slot, q)] →
    q.state = .setting → (∀ f, f ∈ q.flanks → f.state = .held) → q.handover = none →
    (∀ x p', x ∈ q.definition.path ++ q.definition.overlap → x.position = some p' →
      if x.element = e then p' = p else s.detection x.element = p'.detection) →
    ∃ t q', exec (.fieldStatusTelegram 0x12 address value check) s = .next t ∧ t.routeRecord slot = some q'
      ∧ OutcomeWritten s t q.route .set
      ∧ if s.mode = .operating ∧ q.hold = false ∧ q.replaced = none ∧ t.conditionFailure slot q' = none then
          q' = { q with state := .clearing, replaced := none }
            ∧ ∀ x, t.signalAt q.definition.entry = some x → x.demanded = .proceed
        else q' = { q with state := .locked })
  ∧ ∀ (s : State) (route : Word) (options : Byte) (d : Definition) (xs : List (Nat × Alternative)) (slot : Nat),
    Receives s [.operating] → NothingStored s → route.toNat ≤ 383 → (s.rse.table.find route.toNat).isSome →
    s.activeRecord route.toNat = none → s.examine route.toNat = .ok (d, xs) →
    s.rsv.lowestFree 48 = some slot →
    ∃ t, exec (.setRoute route options) s = .next t
      ∧ t = ((s.take route.toNat (options.getLsbD 0) slot d xs).reply .set [BitVec.ofNat 8 slot]).spent
      ∧ t.cp.answer = some { status := 0x01, data := [BitVec.ofNat 8 slot] }
      ∧ t.mode = .operating ∧ t.ts = s.ts

/-- CANCEL_ROUTE of a stored request removes it with outcome CANCELLED, the others keeping their order, and hands no retry
trigger (R114); of a route neither stored nor active it is refused NOT_ACTIVE; in IN_USE and in a release it is refused
(R113). In SETTING, HANDOVER_WAIT, and LOCKED with no PROCEED shown, the record ends with outcome CANCELLED. Of a cleared
route STOP is written; where the approach check gives a hold, the record is held for it and the answer carries it, else
the record ends (R117); one in LOCKED that has shown PROCEED is treated so without the write. -/
def Obligations.CancelRouteDecides : Prop :=
  (∀ (s : State) (route : Word) (slot : Nat) (r : RouteRecord) (hold : Nat), Receives s [.operating] →
    NoTriggerWaits s → route.toNat ≤ 383 → (s.rse.table.find route.toNat).isSome →
    (s.rse.queue.any fun q => q.route == route.toNat) = false →
    s.activeRecord route.toNat = some (slot, r) → s.approachCheck r.definition = some hold →
    (r.state = .clearing ∨ r.state = .cleared →
      ∃ t, exec (.cancelRoute route) s = .next t
        ∧ t.cp.answer = some { status := 0x00, data := 2 :: Word.bytes (BitVec.ofNat 16 hold) }
        ∧ t.rsv = s.rsv.adjust slot (fun r => { r with state := .approachHold, holdTimer := some hold })
        ∧ (∀ b, s.signalAt r.definition.entry = some b →
            (t.signalAt r.definition.entry).map (·.demanded) = some .stop)
        ∧ t.ts = s.ts ∧ t.rse = s.rse ∧ t.fu = s.fu ∧ t.lk = s.lk ∧ t.bu = s.bu)
    ∧ (r.state = .locked → r.shownProceed = true →
      exec (.cancelRoute route) s = .next (answered
        { s with rsv := s.rsv.adjust slot fun r => { r with state := .approachHold, holdTimer := some hold } }
        0x00 (2 :: Word.bytes (BitVec.ofNat 16 hold)))))
  ∧ (∀ (s : State) (route : Word) (slot : Nat) (r : RouteRecord), Receives s [.operating] → NothingStored s →
    route.toNat ≤ 383 → (s.rse.table.find route.toNat).isSome →
    s.activeRecord route.toNat = some (slot, r) → s.routeRecord slot = some r →
    (r.state = .setting ∨ r.state = .handoverWait ∨ (r.state = .locked ∧ r.shownProceed = false)
      ∨ ((r.state = .locked ∨ r.state = .clearing ∨ r.state = .cleared) ∧ s.approachCheck r.definition = none)) →
    ∃ t, exec (.cancelRoute route) s = .next t ∧ t.cp.answer = some { status := 0x00, data := [1] }
      ∧ t.routeRecord slot = none
      ∧ (∀ x, s.rse.table.find r.route = some x →
          t.rse.table.find r.route = some { x with outcome := some .cancelled, unread := true })
      ∧ (∀ e, HeldBy r e → t.lockOf e ≠ some (.route slot .path) ∧ t.lockOf e ≠ some (.route slot .overlap))
      ∧ (r.state = .clearing ∨ r.state = .cleared → ∀ b, s.signalAt r.definition.entry = some b →
          (t.signalAt r.definition.entry).map (·.demanded) = some .stop)
      ∧ t.ts = s.ts)
  ∧ ∀ (s : State) (route : Word), Receives s [.operating] → NoTriggerWaits s → route.toNat ≤ 383 →
    (s.rse.table.find route.toNat).isSome →
    ((s.rse.queue.any fun q => q.route == route.toNat) = true →
      exec (.cancelRoute route) s = .next (answered { s with
        rse := { s.rse with
          queue := s.rse.queue.filter fun q => q.route != route.toNat
          table := s.rse.table.adjust route.toNat fun r => { r with outcome := some .cancelled, unread := true } }
        cp := { s.cp with latches := s.cp.latches ||| 0x001 } } 0x00 [0]))
    ∧ ((s.rse.queue.any fun q => q.route == route.toNat) = false →
      (s.activeRecord route.toNat = none → exec (.cancelRoute route) s = .next (refused s 0x14))
      ∧ ∀ slot r, s.activeRecord route.toNat = some (slot, r) →
        (r.state = .inUse → exec (.cancelRoute route) s = .next (refused s 0x17))
        ∧ (r.state = .approachHold ∨ r.state = .timedRelease →
          exec (.cancelRoute route) s = .next (refused s 0x18)))

/-- The approach check reads of a section its length and occupancy and of a boundary element its remote section length and
image, the length taken within 1 to 4000 metres and a WITHDRAWN element as UNKNOWN. No approach element gives the longest
hold; every approach section CLEAR gives none; else the running time to the nearest that is not CLEAR, with the margin,
within the route's limits. -/
def Obligations.ApproachCheckGivesTheHold : Prop :=
  (∀ (s : State) (e : Nat) (r : Element), s.element e = some r →
    (∀ b, r.body = .sect b → s.approachInput e
      = (max 1 (min 4000 b.length.toNat), if r.withdrawn then .unknown else b.occupancy))
    ∧ ∀ b, r.body = .boundary b → s.approachInput e
      = (max 1 (min 4000 b.remoteLength.toNat), if r.withdrawn then .unknown else b.image))
  ∧ ∀ (s : State) (d : Definition),
    (d.approach = [] → s.approachCheck d = some (10 * max (max 30 (min 600 d.tMax.toNat)) (min 60 d.tMin.toNat)))
    ∧ ((∀ e, e ∈ d.approach → (s.approachInput e).2 = .clear) → d.approach ≠ [] → s.approachCheck d = none)
    ∧ ∀ near e far, d.approach = near ++ e :: far → (∀ x, x ∈ near → (s.approachInput x).2 = .clear) →
      (s.approachInput e).2 ≠ .clear →
      s.approachCheck d = some (
        max (10 * min 60 d.tMin.toNat) (min (10 * max (max 30 (min 600 d.tMax.toNat)) (min 60 d.tMin.toNat))
          (((((near ++ [e]).map fun x => (s.approachInput x).1).sum * 36 + max 10 (min 200 d.speed.toNat) - 1)
              / max 10 (min 200 d.speed.toNat))
            + min 600 d.margin.toNat)))

/-- RECLEAR of a locked route whose conditions hold writes PROCEED and moves it to CLEARING; where one fails it is
refused CONDITIONS with the reason and element of the first that fails. TIMED_RELEASE of a locked, used or held route
writes STOP, starts the longest hold and sets an overlap that is TIMING back to HELD. With no active record each is
refused NOT_ACTIVE; in another state RECLEAR and, before LOCKED or while the signal is cleared, TIMED_RELEASE are refused
NOT_LOCKED; in TIMED_RELEASE it is refused RELEASING. The clearing conditions in order: every element is locked to the
slot in its role, none is withdrawn, the points are detected in position, the sections CLEAR, the flank references not
released are HELD and satisfied, and the handover is ACCEPTED with its link UP and the remote section CLEAR. A LOCAL
reference is satisfied as its claim is, a REMOTE one while its entry is GRANTED or STALE and the item's image
GRANTED_SATISFIED. -/
def Obligations.ReclearAndTimedRelease : Prop :=
  (∀ (s : State) (route : Word) (slot : Nat) (r : RouteRecord), Receives s [.operating] →
    route.toNat ≤ 383 → (s.rse.table.find route.toNat).isSome →
    s.activeRecord route.toNat = some (slot, r) →
    (r.state = .locked → s.conditionFailure slot r = none →
      ∃ t, exec (.reclear route) s = .next t ∧ t.cp.answer = some { status := 0x00, data := [] }
        ∧ t.rsv = s.rsv.adjust slot (fun r => { r with state := .clearing, replaced := none })
        ∧ (∀ b, s.signalAt r.definition.entry = some b →
            (t.signalAt r.definition.entry).map (fun x => (x.demanded, x.proving))
              = some (.proceed, some (max 5 (min 30 b.provingTime.toNat))))
        ∧ t.ts = s.ts ∧ t.rse = s.rse ∧ t.fu = s.fu ∧ t.lk = s.lk ∧ t.bu = s.bu)
    ∧ (r.state = .locked ∨ r.state = .inUse ∨ r.state = .approachHold →
      ∃ t, exec (.timedRelease route) s = .next t
        ∧ t.cp.answer = some { status := 0x00, data := Word.bytes (BitVec.ofNat 16 r.definition.longestHold) }
        ∧ (t.rsv.find slot).map (fun x => (x.state, x.holdTimer, x.overlapTimer))
            = (s.rsv.find slot).map (fun _ =>
                (RecordState.timedRelease, some r.definition.longestHold, (none : Timer)))
        ∧ (t.rsv.find slot).map (·.overlapStatus)
            = (s.rsv.find slot).map (fun x => if x.overlapStatus = .timing then .held else x.overlapStatus)
        ∧ (∀ b, s.signalAt r.definition.entry = some b →
            (t.signalAt r.definition.entry).map (·.demanded) = some .stop)
        ∧ t.ts = s.ts ∧ t.rse = s.rse ∧ t.fu = s.fu ∧ t.lk = s.lk ∧ t.bu = s.bu)
    ∧ (r.state ≠ .locked → exec (.reclear route) s = .next (refused s 0x15))
    ∧ (r.state = .locked → ∀ reason e, s.conditionFailure slot r = some (reason, e) →
      exec (.reclear route) s = .next (answered s 0x03
        ([0x16, 0xFF, 0xFF, reason.code] ++ Word.bytes (BitVec.ofNat 16 e))))
    ∧ (r.state = .setting ∨ r.state = .handoverWait ∨ r.state = .clearing ∨ r.state = .cleared →
      exec (.timedRelease route) s = .next (refused s 0x15))
    ∧ (r.state = .timedRelease → exec (.timedRelease route) s = .next (refused s 0x18)))
  ∧ (∀ (s : State) (route : Word), Receives s [.operating] → route.toNat ≤ 383 →
    (s.rse.table.find route.toNat).isSome → s.activeRecord route.toNat = none →
    exec (.reclear route) s = .next (refused s 0x14) ∧ exec (.timedRelease route) s = .next (refused s 0x14))
  -- the clearing conditions
  ∧ (∀ (s : State) (slot : Nat) (r : RouteRecord),
    (∀ x, FirstFailing (recordElements r) (fun x => s.lockOf x.1 = some (.route slot x.2)) x →
      s.conditionFailure slot r = some (.lockLost, x.1))
    ∧ ((∀ x, x ∈ recordElements r → s.lockOf x.1 = some (.route slot x.2)) →
      (∀ x, FirstFailing (recordElements r) (fun x => s.isWithdrawn x.1 = false) x →
        s.conditionFailure slot r = some (.withdrawn, x.1))
      ∧ ((∀ x, x ∈ recordElements r → s.isWithdrawn x.1 = false) →
        (∀ x, FirstFailing (recordPoints r) (fun x => s.detection x.1 = x.2.detection) x →
          s.conditionFailure slot r = some (.notDetected, x.1))
        ∧ ((∀ x, x ∈ recordPoints r → s.detection x.1 = x.2.detection) →
          (∀ x, FirstFailing (recordSections r) (fun x => s.occupancy x = .clear) x →
            s.conditionFailure slot r = some (.notClear, x))
          ∧ ((∀ x, x ∈ recordSections r → s.occupancy x = .clear) →
            (∀ f, FirstFailing r.flanks (Protected s) f →
              s.conditionFailure slot r = some (.flankLost, r.definition.tiedElement f.tied))
            ∧ ((∀ f, f ∈ r.flanks → Protected s f) →
              (r.handover = none → s.conditionFailure slot r = none)
              ∧ ∀ h, r.handover = some h → s.conditionFailure slot r
                  = if h.status ≠ .accepted then some (.notAccepted, r.definition.exit)
                    else if s.lineUp h.line = false then some (.linkDown, r.definition.exit)
                    else if s.remoteImage r.definition.exit ≠ .clear then some (.remoteNotClear, r.definition.exit)
                    else none))))))
  ∧ ∀ (s : State) (f : FlankRef) (g : Group) (n : Nat), s.fu.groups.find f.group = some g → f.alternative = some n →
    (∀ e d, g.alternatives[n - 1]? = some (.localAlt e d) →
      (s.refSatisfied f = true ↔ ∃ c x, s.claimOn e = some (c, x) ∧ x.satisfied = true))
    ∧ ∀ l k, g.alternatives[n - 1]? = some (.remoteAlt l k) →
      (s.refSatisfied f = true ↔ ((s.item l k).state = .granted ∨ (s.item l k).state = .stale)
        ∧ ∃ r e b, s.line l = some r ∧ r.boundary = some e ∧ s.boundaryAt e = some b
          ∧ b.items[k]? = some .satisfied)

/-- QUERY_ROUTE, QUERY_CLAIM and QUERY_LINE answer and change nothing; an identifier out of range, and an element id
without a record, is NOT_DEFINED. -/
def Obligations.QueriesChangeNothing : Prop :=
  ∀ s : State, Receives s [.operating, .halted] →
    (∀ route : Word, exec (.queryRoute route) s = .next (
      if route.toNat ≤ 383 then answered s 0x00 (s.routeAnswer route.toNat) else refused s 0x01))
    ∧ (∀ n : Word, exec (.queryClaim 0 n) s = .next (
      if n.toNat ≤ 127 then answered s 0x00 (claimAnswer (s.claimRecord n.toNat)) else refused s 0x01))
    ∧ (∀ n : Word, exec (.queryClaim 1 n) s = .next (
      if n.toNat ≤ 511 ∧ (s.element n.toNat).isSome then
        answered s 0x00 (claimAnswer ((s.claimOn n.toNat).map (·.2)))
      else refused s 0x01))
    ∧ (∀ n : Word, exec (.queryClaim 2 n) s = .next (
      if n.toNat ≤ 15 then answered s 0x00 (s.lineClaimAnswer n.toNat) else refused s 0x01))
    ∧ (∀ (k : Byte) (n : Word), 3 ≤ k.toNat → exec (.queryClaim k n) s = .next (refused s 0x01))
    ∧ ∀ l : Byte, (∀ r, s.line l.toNat = some r → l.toNat ≤ 15 →
        exec (.queryLine l) s = .next (answered s 0x00 (s.lineAnswer l.toNat r)))
      ∧ (s.line l.toNat = none ∨ 15 < l.toNat → exec (.queryLine l) s = .next (refused s 0x01))

/-- The overlap timer expires: no overlap element stays locked to the slot. The hold of an approach hold or timed release
expires: the record ends, its slot is free, no element of it stays locked to the slot, and its route has the outcome. The
storage timer of a stored request expires: it leaves the queue with outcome STORAGE_TIMEOUT, which carries its last
reason and element. -/
def Obligations.RouteTimersRelease : Prop :=
  (∀ (s : State) (route : Nat) (q : QueueEntry), s.rse.queue.find? (fun q => q.route == route) = some q →
    q.timer = some 0 →
    exec (.storageTimerExpiry route) s = .next { s with
      rse := { s.rse with
        queue := s.rse.queue.filter fun q => q.route != route
        table := s.rse.table.adjust route fun r =>
          { r with outcome := some (.storageTimeout q.reason q.element), unread := true } }
      cp := { s.cp with latches := s.cp.latches ||| 0x001 } })
  ∧ ∀ (s : State) (slot : Nat) (r : RouteRecord), s.routeRecord slot = some r → NothingStored s →
    (r.overlapStatus = .timing → r.overlapTimer = some 0 →
      ∃ t, exec (.overlapTimerExpiry slot) s = .next t
        ∧ (∀ e, e ∈ r.definition.overlap.map (·.element) →
            t.lockOf e ≠ some (.route slot .overlap) ∧ t.lockOf e ≠ some (.route slot .path))
        ∧ (∀ r', t.routeRecord slot = some r' → r'.overlapStatus = .released) ∧ t.ts = s.ts)
    ∧ (r.state = .approachHold → r.holdTimer = some 0 →
      ∃ t, exec (.approachHoldExpiry slot) s = .next t ∧ t.routeRecord slot = none
        ∧ (∀ e, HeldBy r e → t.lockOf e ≠ some (.route slot .path) ∧ t.lockOf e ≠ some (.route slot .overlap))
        ∧ (∀ x, s.rse.table.find r.route = some x →
            t.rse.table.find r.route = some { x with outcome := some .cancelled, unread := true })
        ∧ t.ts = s.ts)
    ∧ (r.state = .timedRelease → r.holdTimer = some 0 →
      ∃ t, exec (.timedReleaseExpiry slot) s = .next t ∧ t.routeRecord slot = none
        ∧ (∀ e, HeldBy r e → t.lockOf e ≠ some (.route slot .path) ∧ t.lockOf e ≠ some (.route slot .overlap))
        ∧ (∀ x, s.rse.table.find r.route = some x →
            t.rse.table.find r.route = some { x with outcome := some .released, unread := true })
        ∧ t.ts = s.ts)

/-! Flank items. -/

/-- A FLANK_ASK is answered by the first case that applies. In HALTED, on a WITHDRAWN line, for an item the line has not,
for one that is not available and with no claim record free it is denied with that reason, and nothing else changes. One
that meets none of these makes a claim, in a new record where the element has none and in the present one where it has:
the neighbour is its last holder, the points are demanded where they are not in position, and the answer is FLANK_GRANT
with SATISFIED where the claim is satisfied, else owed; the line's image follows, the answer before it (log 36). An ask
repeated while the holder exists gives it the new number: a GRANTED holder is granted again as the claim stands, an OWED
one is not yet answered, a DENIED one is granted where the claim is satisfied, else owed again where it is available,
else denied with CONFLICT. -/
def Obligations.FlankAskMakesAClaim : Prop :=
  ∀ (s : State) (port n l : Nat) (k : LinkSlot) (sequence index item ask : Byte) (r : Line),
    Carries s port sequence index n l k → NoTriggerWaits s → s.line l = some r →
    -- denied
    (∀ code : Byte, r.slot = some n → k.transmit.length < 32 →
      (s.mode = .halted ∧ code = 0x4C)
        ∨ (s.mode ≠ .halted ∧ r.withdrawn = true ∧ code = 0x63)
        ∨ (s.mode ≠ .halted ∧ r.withdrawn = false ∧ r.items[item.toNat]? = none ∧ code = 0x6C)
        ∨ (s.mode ≠ .halted ∧ r.withdrawn = false ∧ ∃ e d, r.items[item.toNat]? = some (e, d)
          ∧ (∀ m c, s.claimOn e = some (m, c) → neighbourHolder c l item.toNat = none)
          ∧ ((s.localAvailable (.neighbour l) e d = false ∧ code = 0x6D)
            ∨ (s.localAvailable (.neighbour l) e d = true ∧ s.claimOn e = none ∧ s.fu.claims.lowestFree 128 = none
              ∧ code = 0x6E))) →
      ∃ t k', exec (.flankAskReceived port sequence index item ask) s = .next t ∧ t = { s with lk := t.lk }
        ∧ t.slot n = some k' ∧ k'.transmit = k.transmit ++ [{ line := l, payload := .flankDeny item ask code }])
    ∧ ∀ (e : Nat) (d : Demand), s.mode ≠ .halted → r.withdrawn = false → r.items[item.toNat]? = some (e, d) →
    -- a new claim
    (∀ x c, s.element e = some x → x.claim = none → s.localAvailable (.neighbour l) e d = true →
      s.fu.claims.lowestFree 128 = some c →
      ∃ t, exec (.flankAskReceived port sequence index item ask) s = .next t
        ∧ (t.element e).bind (·.claim) = some c
        ∧ (t.claimRecord c).map (fun y => (y.element, y.demand, y.holders)) = some (e, d,
            [.neighbour l item.toNat ask (if s.satisfiedNow e d then .granted else .owed)])
        ∧ DemandedForClaim s t e d
        ∧ (r.slot = some n → r.items.length ≤ 8 → k.transmit.length + 2 ≤ 32 → ∃ k', t.slot n = some k'
          ∧ k'.transmit = thenImage k.transmit l (if s.satisfiedNow e d then [.flankGrant item ask true] else []))
        ∧ t.ts = s.ts ∧ t.rsv = s.rsv ∧ t.bu = s.bu ∧ t.rse = s.rse)
    -- a claim joined
    ∧ (∀ m c, s.claimOn e = some (m, c) → neighbourHolder c l item.toNat = none →
      s.localAvailable (.neighbour l) e d = true →
      ∃ t, exec (.flankAskReceived port sequence index item ask) s = .next t
        ∧ (t.claimRecord m).map (fun y => (y.element, y.demand, y.satisfied, y.holders)) = some (c.element, d, c.satisfied,
            c.holders ++ [.neighbour l item.toNat ask (if c.satisfied then .granted else .owed)])
        ∧ DemandedForClaim s t e d
        ∧ (r.slot = some n → r.items.length ≤ 8 → k.transmit.length + 2 ≤ 32 → ∃ k', t.slot n = some k'
          ∧ k'.transmit = thenImage k.transmit l (if c.satisfied then [.flankGrant item ask true] else []))
        ∧ t.ts = s.ts ∧ t.rsv = s.rsv ∧ t.bu = s.bu ∧ t.rse = s.rse)
    -- an ask repeated
    ∧ ∀ m c a g, s.claimOn e = some (m, c) → neighbourHolder c l item.toNat = some (a, g) → c.element = e →
      c.demand = d → r.slot = some n → r.items.length ≤ 8 → k.transmit.length + 2 ≤ 32 →
      ∃ t k' g', exec (.flankAskReceived port sequence index item ask) s = .next t ∧ t.slot n = some k'
        ∧ (t.claimRecord m).map (fun y => (y.element, y.demand, y.satisfied, y.holders)) = some (e, d, c.satisfied,
            askedAgain c.holders l item.toNat ask g')
        ∧ (g = .granted → g' = .granted ∧ t.es = s.es
          ∧ k'.transmit = k.transmit ++ [{ line := l, payload := .flankGrant item ask c.satisfied }])
        ∧ (g = .owed → g' = .owed ∧ t.es = s.es ∧ k'.transmit = k.transmit)
        ∧ (g = .denied → c.satisfied = true → g' = .granted ∧ t.es = s.es
          ∧ k'.transmit = thenImage k.transmit l [.flankGrant item ask true])
        ∧ (g = .denied → c.satisfied = false → s.localAvailable (.neighbour l) e d = true →
          g' = .owed ∧ DemandedForClaim s t e d ∧ k'.transmit = k.transmit)
        ∧ (g = .denied → c.satisfied = false → s.localAvailable (.neighbour l) e d = false →
          g' = .denied ∧ t.es = s.es
          ∧ k'.transmit = k.transmit ++ [{ line := l, payload := .flankDeny item ask 0x6D }])
        ∧ t.ts = s.ts ∧ t.rsv = s.rsv ∧ t.bu = s.bu ∧ t.rse = s.rse

/-- FLANK_GRANT for the ask that is out: the entry is GRANTED with its timer stopped, the item's image is written, and
the references that rest on it are HELD (with no record in CLEARING, whose replacement could end a route in the same
step); any other grant is answered FLANK_FREE and changes nothing else. FLANK_DENY for the ask, or the expiry of its
timer: the last reason is the reason received or TIMEOUT, and an entry with no resting reference is IDLE with its timer
stopped after a FLANK_FREE; any other deny changes nothing. A single resting reference leaves the entry, FLANK_FREE is
handed, and the reference is resolved: where its group has no later alternative, the record fails with FLANK and the tied
element, else the reference has that alternative; the entry is IDLE, or, where the alternative is the same item again,
asked anew with the line's next ask number (R79). The sweep hold expires: it stops and nothing else changes. -/
def Obligations.ItemsAreAnsweredOrTimed : Prop :=
  (∀ (s : State) (l k : Nat), k < 8 →
    ((s.item l k).state = .asked → (s.item l k).askTimer = some 0 →
      (∃ t, exec (.askTimerExpiry l k) s = .next t ∧ (t.item l k).lastReason = 0x6F ∧ t.ts = s.ts)
      ∧ ((s.item l k).refs = [] → NoTriggerWaits s →
        ∃ t, exec (.askTimerExpiry l k) s = .next t ∧ t = { s with fu := t.fu, lk := t.lk }
          ∧ t.item l k = { s.item l k with state := .idle, askTimer := none, lastReason := 0x6F }
          ∧ ∀ r n x, s.line l = some r → r.slot = some n → s.slot n = some x → x.link = .up → x.transmit.length < 32 →
              t.slot n = some { x with transmit := x.transmit
                ++ [{ line := l, payload := .flankFree (BitVec.ofNat 8 k) (s.item l k).ask false }] }))
    ∧ ((s.item l k).sweepHold = some 0 →
      exec (.sweepHoldExpiry l k) s = .next { s with fu := { s.fu with
        items := s.fu.items.put (8 * l + k) { s.item l k with sweepHold := none } } }))
  -- a single resting reference
  ∧ (∀ (s : State) (c : Instr) (l k : Nat) (code : Byte) (slot i : Nat) (q : RouteRecord) (f : FlankRef),
    GivesUpAsk s c l k code → (s.item l k).refs = [(slot, i)] → Ascending s.rsv → NothingStored s →
    s.routeRecord slot = some q → q.state = .setting ∨ q.state = .handoverWait →
    q.flanks[i]? = some f → f.state = .remotePending → s.chosen f = some (.remoteAlt l k) →
    ∃ t, exec c s = .next t
      ∧ (∀ r n x, s.line l = some r → r.slot = some n → s.slot n = some x → x.link = .up → x.transmit.length < 32 →
        ∃ y later, t.slot n = some y ∧ y.transmit = x.transmit
          ++ { line := l, payload := .flankFree (BitVec.ofNat 8 k) (s.item l k).ask false } :: later)
      ∧ (s.search (.route slot) f.group (f.alternative.getD 0 + 1) = none → t.routeRecord slot = none
        ∧ OutcomeWritten s t q.route (.failed .flank (some (q.definition.tiedElement f.tied)))
        ∧ t.item l k = { s.item l k with state := .idle, askTimer := none, refs := [], lastReason := code })
      ∧ ∀ m a, s.search (.route slot) f.group (f.alternative.getD 0 + 1) = some (m, a) →
        (∃ q' st, t.routeRecord slot = some q' ∧ st ≠ .released
          ∧ q'.flanks[i]? = some { f with alternative := some m, state := st })
        ∧ (a ≠ .remoteAlt l k →
          t.item l k = { s.item l k with state := .idle, askTimer := none, refs := [], lastReason := code })
        ∧ (a = .remoteAlt l k → t.item l k = { s.item l k with
            state := .asked, ask := (s.fu.nextAsk.find l).getD 0, refs := [(slot, i)], askTimer := some 30,
            sweepHold := none, lastReason := code }))
  ∧ (∀ (s : State) (port n l : Nat) (k : LinkSlot) (sequence index item ask code : Byte) (r : Line),
    Carries s port sequence index n l k → s.line l = some r → item.toNat < 8 →
    (s.item l item.toNat).state = .asked → (s.item l item.toNat).ask = ask →
    (∀ e b, r.boundary = some e → s.boundaryAt e = some b → item.toNat < b.items.length →
      ∃ t b', exec (.flankGrantReceived port sequence index item ask code) s = .next t
        ∧ t.boundaryAt e = some b'
        ∧ b'.items[item.toNat]? = some (if code = 1 then .satisfied else .unsatisfied) ∧ t.ts = s.ts)
    ∧ (Ascending s.rsv → NothingStored s → (∀ slot q, s.routeRecord slot = some q → q.state ≠ .clearing) →
      ∃ t, exec (.flankGrantReceived port sequence index item ask code) s = .next t
        ∧ t.item l item.toNat = { s.item l item.toNat with state := .granted, askTimer := none }
        ∧ ∀ slot i q f, (slot, i) ∈ (s.item l item.toNat).refs → s.routeRecord slot = some q →
            q.flanks[i]? = some f →
            ∃ q', t.routeRecord slot = some q' ∧ q'.flanks[i]? = some { f with state := .held })
    ∧ (∃ t, exec (.flankDenyReceived port sequence index item ask code) s = .next t
        ∧ (t.item l item.toNat).lastReason = code ∧ t.ts = s.ts)
    ∧ ((s.item l item.toNat).refs = [] → NoTriggerWaits s → r.slot = some n → k.transmit.length < 32 →
      ∃ t k', exec (.flankDenyReceived port sequence index item ask code) s = .next t
        ∧ t = { s with fu := t.fu, lk := t.lk }
        ∧ t.item l item.toNat = { s.item l item.toNat with state := .idle, askTimer := none, lastReason := code }
        ∧ t.slot n = some k'
        ∧ k'.transmit = k.transmit ++ [{ line := l, payload := .flankFree item ask false }]))
  ∧ ∀ (s : State) (port n l : Nat) (k : LinkSlot) (sequence index item ask code : Byte) (r : Line),
    Carries s port sequence index n l k → s.line l = some r → NoTriggerWaits s → r.slot = some n →
    k.transmit.length < 32 → 8 ≤ item.toNat ∨ (s.item l item.toNat).state ≠ .asked ∨ (s.item l item.toNat).ask ≠ ask →
    (∃ t k', exec (.flankGrantReceived port sequence index item ask code) s = .next t
      ∧ t = { s with lk := t.lk } ∧ t.slot n = some k'
      ∧ k'.transmit = k.transmit ++ [{ line := l, payload := .flankFree item ask false }])
    ∧ ∃ t k', exec (.flankDenyReceived port sequence index item ask code) s = .next t
      ∧ t = { s with lk := t.lk } ∧ t.slot n = some k' ∧ k'.transmit = k.transmit

/-- FLANK_FREE with the ask number held, or as a sweep: the neighbour's holder for the item leaves the claim. -/
def Obligations.FlankFreeRemovesTheHolder : Prop :=
  ∀ (s : State) (port n l : Nat) (k : LinkSlot) (sequence index item ask sweep : Byte) (r : Line) (e : Nat)
    (d : Demand) (c : Nat) (x : Claim) (held : Byte) (g : GrantState),
    Carries s port sequence index n l k → s.line l = some r → NothingStored s →
    r.items[item.toNat]? = some (e, d) → s.claimOn e = some (c, x) → x.element = e →
    neighbourHolder x l item.toNat = some (held, g) → held = ask ∨ sweep = 1 →
    ∃ t, exec (.flankFreeReceived port sequence index item ask sweep) s = .next t
      ∧ (∀ c' y, t.claimOn e = some (c', y) → neighbourHolder y l item.toNat = none)
      ∧ t.ts = s.ts ∧ t.rsv = s.rsv ∧ t.bu = s.bu

/-! Boundary lines. -/

/-- SET_LINE_POLICY writes the policy; LINE_RESET on a line whose slot is not UP, with no route, starts 120 s.
ANSWER_OFFER on an offer PENDING_HOST: accepted, the border section is reserved for the line and transit set; declined,
the offer goes. -/
def Obligations.LineRequestsAct : Prop :=
  (∀ (s : State) (line : Byte) (r : Line) (o : InOffer), Receives s [.operating] → line.toNat ≤ 15 →
    s.line line.toNat = some r → r.inOffer = some o → o.accepted = false →
    (r.withdrawn = false → s.acceptanceFailure r = none →
      ∃ t, exec (.answerOffer line 1) s = .next t ∧ t.cp.answer = some { status := 0x00, data := [0] }
        ∧ t.lockOf r.border = some (.entry line.toNat)
        ∧ t.line line.toNat = some { r with
            transit := true, inOffer := some { number := o.number, accepted := true, passed := false, deadline := none } }
        ∧ (∀ e, e ≠ r.border → t.element e = s.element e) ∧ t.ts = s.ts ∧ t.rse = s.rse ∧ t.rsv = s.rsv)
    ∧ ∃ t, exec (.answerOffer line 2) s = .next t ∧ t.cp.answer = some { status := 0x00, data := [1, 0x6A] }
        ∧ t.line line.toNat = some { r with inOffer := none }
        ∧ t.es = s.es ∧ t.ts = s.ts ∧ t.rse = s.rse ∧ t.rsv = s.rsv)
  ∧ ∀ (s : State) (line : Byte) (r : Line), Receives s [.operating] → line.toNat ≤ 15 →
    s.line line.toNat = some r →
    (∀ code p, policyOf code = some p → exec (.setLinePolicy line code) s = .next (answered
      { s with bu := s.bu.adjust line.toNat fun r => { r with policy := p } } 0x00 []))
    ∧ (∀ code : Byte, 3 ≤ code.toNat → exec (.setLinePolicy line code) s = .next (refused s 0x01))
    ∧ exec (.lineReset line) s = .next (
        if s.lineUp line.toNat then refused s 0x1C
        else if s.routeOnLine r then refused s 0x1D
        else if r.resetTimer.isSome then refused s 0x1E
        else answered { s with bu := s.bu.adjust line.toNat fun r => { r with resetTimer := some 1200 } } 0x00 [])

/-- DIR_ASK, by this end's token: UNSET or IN, the token is IN and the neighbour hears DIR_YIELD last; OUT, DIR_REFUSE
with the first yield condition that fails and nothing else, or the same as IN where none fails; ASKING, the end with the
lower word keeps its ask and the other gives the token back, fails its route with DIRECTION_LOST and answers as though it
had not asked: DIR_YIELD from UNSET or IN, and from OUT the yield conditions without the lost route, with DIR_YIELD or
DIR_REFUSE handed last; on a withdrawn line DIR_REFUSE with LINE_WITHDRAWN. DIR_YIELD while this end asks: the token is
OUT and the route's offer is made with the next offer number. -/
def Obligations.DirectionIsYielded : Prop :=
  (∀ (s : State) (port n l : Nat) (k : LinkSlot) (sequence index : Byte) (r : Line) (prior : Direction) (a : DirAsk),
    Carries s port sequence index n l k → NoTriggerWaits s → s.line l = some r → r.token = .asking prior →
    r.ask = some a →
    ∃ t, exec (.dirYieldReceived port sequence index) s = .next t
      ∧ t.line l = some { r with
          token := .rest .outward, ask := none, conflict := false, nextOffer := r.nextOffer + 1,
          outOffer := some { number := r.nextOffer, slot := some a.slot, state := .offered, deadline := some 150 } }
      ∧ (∀ q h, s.routeRecord a.slot = some q → q.handover = some h → t.routeRecord a.slot = some { q with
          handover := some { h with status := .offered, offer := some r.nextOffer } })
      ∧ t.es = s.es ∧ t.ts = s.ts ∧ t.rse = s.rse ∧ t.fu = s.fu)
  ∧ (∀ (s : State) (port n l : Nat) (k : LinkSlot) (sequence index : Byte) (word : Word) (r : Line) (d : Direction),
    Carries s port sequence index n l k → NoTriggerWaits s → s.line l = some r → r.withdrawn = false →
    r.token = .rest d → d ≠ .outward → r.ask = none →
    ∃ t, exec (.dirAskReceived port sequence index word) s = .next t
      ∧ (t.line l).map (·.token) = some (.rest .inward)
      ∧ (r.slot = some n → k.transmit.length < 31 → ∃ k', t.slot n = some k'
          ∧ k'.transmit.getLast? = some { line := l, payload := .dirYield } ∧ k'.silence = some 6
          ∧ k'.rxSequence = some sequence)
      ∧ t.es = s.es ∧ t.ts = s.ts ∧ t.rse = s.rse ∧ t.rsv = s.rsv ∧ t.fu = s.fu)
  ∧ ∀ (s : State) (port n l : Nat) (k : LinkSlot) (sequence index : Byte) (word : Word) (r : Line),
    Carries s port sequence index n l k → NoTriggerWaits s → s.line l = some r → r.slot = some n →
    k.transmit.length < 31 →
    (r.withdrawn = true →
      ∃ t k', exec (.dirAskReceived port sequence index word) s = .next t ∧ t = { s with lk := t.lk }
        ∧ t.slot n = some k' ∧ k'.transmit = k.transmit ++ [{ line := l, payload := .dirRefuse 0x63 }])
    ∧ (r.withdrawn = false → r.token = .rest .outward → ∀ reason : Option Byte,
        reason = (if r.outOffer.isSome then some 0x60 else if s.routeOnLine r then some 0x1D
          else if r.transit then some 0x61 else if s.occupancy r.border ≠ .clear then some 0x62
          else if (r.boundary.map s.remoteImage).getD .unknown ≠ .clear then some 0x49 else none) →
      ∃ t k', exec (.dirAskReceived port sequence index word) s = .next t ∧ t.slot n = some k'
        ∧ (∀ code, reason = some code → t = { s with lk := t.lk }
            ∧ k'.transmit = k.transmit ++ [{ line := l, payload := .dirRefuse code }])
        ∧ (reason = none → t = { s with lk := t.lk, bu := t.bu }
            ∧ t.line l = some { r with token := .rest .inward, conflict := false }
            ∧ k'.transmit.getLast? = some { line := l, payload := .dirYield }))
    ∧ (∀ prior a, r.withdrawn = false → r.token = .asking prior → r.ask = some a →
        (a.word.toNat < word.toNat →
          ∃ t k', exec (.dirAskReceived port sequence index word) s = .next t ∧ t = { s with lk := t.lk }
            ∧ t.slot n = some k' ∧ k'.transmit = k.transmit)
        ∧ (word.toNat < a.word.toNat → NothingStored s → Ascending s.rsv →
          (∀ o, r.outOffer = some o → o.slot ≠ some a.slot) →
          ∃ t r' k', exec (.dirAskReceived port sequence index word) s = .next t ∧ t.line l = some r'
            ∧ t.slot n = some k' ∧ r'.ask = none ∧ t.routeRecord a.slot = none
            ∧ (∀ q x, s.routeRecord a.slot = some q → s.rse.table.find q.route = some x →
                t.rse.table.find q.route = some { x with
                  outcome := some (.failed .directionLost (some q.definition.exit)), unread := true })
            ∧ ∀ reason : Option Byte, reason = (if prior ≠ .outward then none
                  else if r.outOffer.isSome then some 0x60
                  else if s.rsv.any (fun p => p.1 != a.slot && r.boundary == some p.2.definition.exit) then some 0x1D
                  else if r.transit then some 0x61 else if s.occupancy r.border ≠ .clear then some 0x62
                  else if (r.boundary.map s.remoteImage).getD .unknown ≠ .clear then some 0x49 else none) →
                r'.token = (if reason.isSome then .rest .outward else .rest .inward)
                ∧ (k'.transmit.length < 32 → k'.transmit.getLast? = some { line := l, payload := match reason with
                    | some code => .dirRefuse code
                    | none => .dirYield })))

/-- An ask that is refused or runs out: the token returns to its prior value, the ask is gone, and its route fails with
DIRECTION and the exit; a refusal keeps its reason. A refusal received while the token is not ASKING changes nothing. -/
def Obligations.FailedAskGivesTheTokenBack : Prop :=
  (∀ (s : State) (l : Nat) (r : Line) (prior : Direction) (a : DirAsk), s.line l = some r →
    r.token = .asking prior → r.ask = some a → r.outOffer = none → NothingStored s →
    (∀ port n k sequence index reason, Carries s port sequence index n l k →
      ∃ t r', exec (.dirRefuseReceived port sequence index reason) s = .next t ∧ t.line l = some r'
        ∧ r'.token = .rest prior ∧ r'.ask = none ∧ r'.lastReason = reason ∧ HandoverFailed s t a.slot .direction
        ∧ t.ts = s.ts)
    ∧ (a.deadline = some 0 →
      ∃ t r', exec (.askDeadlineExpiry l) s = .next t ∧ t.line l = some r'
        ∧ r'.token = .rest prior ∧ r'.ask = none ∧ HandoverFailed s t a.slot .direction ∧ t.ts = s.ts))
  ∧ ∀ (s : State) (port n l : Nat) (k : LinkSlot) (sequence index reason : Byte) (r : Line),
    Carries s port sequence index n l k → NoTriggerWaits s → s.line l = some r → (∀ x, r.token ≠ .asking x) →
    ∃ t k', exec (.dirRefuseReceived port sequence index reason) s = .next t ∧ t = { s with lk := t.lk }
      ∧ t.slot n = some k' ∧ k'.transmit = k.transmit

/-- OFFER on a line with token IN and policy AUTO_ACCEPT that meets no failure: the border section is reserved, the offer
accepted, transit set; with ASK_HOST it is PENDING_HOST for 10 s with OFFER_PENDING. Else it is declined with the first
reason that applies, POLICY with AUTO_DECLINE among them, and nothing else changes; one with the number of the live offer
is answered ACCEPT again where that is accepted, and not at all where it is pending. WITHDRAW of an incoming offer
removes it; PASSED of an accepted one is noted while the border section is not OCCUPIED, and ends it while it is; the
host deadline of a pending one removes it. -/
def Obligations.IncomingOfferComesAndGoes : Prop :=
  (∀ (s : State) (l : Nat) (r : Line) (o : InOffer), s.line l = some r → r.inOffer = some o →
    (∀ port n k sequence index, Carries s port sequence index n l k → NothingStored s →
      ∃ t r', exec (.withdrawReceived port sequence index o.number) s = .next t ∧ t.line l = some r'
        ∧ r'.inOffer = none ∧ (o.accepted = true → t.lockOf r.border ≠ some (.entry l))
        ∧ (o.accepted = false → t.es = s.es) ∧ t.ts = s.ts)
    ∧ (∀ port n k sequence index, Carries s port sequence index n l k → NoTriggerWaits s → o.accepted = true →
      s.occupancy r.border ≠ .occupied →
      ∃ t, exec (.passedReceived port sequence index o.number) s = .next t
        ∧ t.line l = some { r with inOffer := some { o with passed := true } }
        ∧ t.es = s.es ∧ t.ts = s.ts ∧ t.rse = s.rse ∧ t.rsv = s.rsv)
    ∧ (∀ port n k sequence index, Carries s port sequence index n l k → NothingStored s → o.accepted = true →
      s.occupancy r.border = .occupied →
      ∃ t, exec (.passedReceived port sequence index o.number) s = .next t
        ∧ t.line l = some { r with inOffer := none, transit := false }
        ∧ t.lockOf r.border ≠ some (.entry l) ∧ t.ts = s.ts ∧ t.rsv = s.rsv)
    ∧ (o.accepted = false → o.deadline = some 0 →
      ∃ t, exec (.hostDeadlineExpiry l) s = .next t ∧ t.line l = some { r with inOffer := none }
        ∧ t.es = s.es ∧ t.ts = s.ts ∧ t.rse = s.rse ∧ t.rsv = s.rsv))
  ∧ (∀ (s : State) (port n l : Nat) (k : LinkSlot) (sequence index offer : Byte) (r : Line) (answer : Option Payload),
    Carries s port sequence index n l k → NoTriggerWaits s → s.line l = some r → r.slot = some n →
    k.transmit.length < 32 →
    answer = (if r.withdrawn then some (.decline offer 0x63)
      else if r.inOffer.any (fun o => o.number == offer && o.accepted) then some (.accept offer)
      else if r.inOffer.any (fun o => o.number == offer) then none
      else if s.mode = .halted then some (.decline offer 0x4C)
      else if r.token ≠ .rest .inward then some (.decline offer 0x64)
      else if r.inOffer.isSome then some (.decline offer 0x60)
      else if (s.element r.border).any (fun x => x.withdrawn || x.blocked) then some (.decline offer 0x65)
      else if (s.lockOf r.border).isSome then some (.decline offer 0x66)
      else if (s.claimOn r.border).any (fun c => c.2.demand == .sectionClear) then some (.decline offer 0x67)
      else if s.occupancy r.border ≠ .clear then some (.decline offer 0x62)
      else if s.isWithdrawn r.entrySignal ∨ s.shown r.entrySignal = .unknown then some (.decline offer 0x68)
      else some (.decline offer 0x69)) →
    s.acceptanceFailure r ≠ none ∨ s.mode = .halted ∨ r.withdrawn ∨ r.inOffer.isSome ∨ r.policy = .autoDecline →
    ∃ t k', exec (.offerReceived port sequence index offer) s = .next t ∧ t = { s with lk := t.lk }
      ∧ t.slot n = some k'
      ∧ k'.transmit = k.transmit ++ (answer.map fun p => { line := l, payload := p }).toList)
  ∧ ∀ (s : State) (port n l : Nat) (k : LinkSlot) (sequence index offer : Byte) (r : Line),
    Carries s port sequence index n l k → NoTriggerWaits s → s.line l = some r → r.withdrawn = false →
    r.inOffer = none → s.mode ≠ .halted → s.acceptanceFailure r = none →
    (r.policy = .autoAccept → ∃ t, exec (.offerReceived port sequence index offer) s = .next t
      ∧ t.lockOf r.border = some (.entry l)
      ∧ t.line l = some { r with
          transit := true, inOffer := some { number := offer, accepted := true, passed := false, deadline := none } }
      ∧ (∀ e, e ≠ r.border → t.element e = s.element e) ∧ t.ts = s.ts ∧ t.rse = s.rse ∧ t.rsv = s.rsv)
    ∧ (r.policy = .askHost → ∃ t, exec (.offerReceived port sequence index offer) s = .next t
      ∧ t.line l = some { r with
          inOffer := some { number := offer, accepted := false, passed := false, deadline := some 100 } }
      ∧ t.cp.latches = s.cp.latches ||| 0x010
      ∧ t.es = s.es ∧ t.ts = s.ts ∧ t.rse = s.rse ∧ t.rsv = s.rsv)

/-- ACCEPT of the offer made: ACCEPTED, its deadline stopped, transit set; the route's handover is ACCEPTED, and its
record goes on from HANDOVER_WAIT to SETTING, or with every point in position and every reference HELD to LOCKED with
outcome SET, or to CLEARING where it does not hold its signal and every clearing condition holds (R58, R59, R97).
DECLINE: the reason is kept, the offer goes and the route fails with DECLINED and the exit. The offer deadline: the offer
goes, the route fails with HANDOVER_TIMEOUT and WITHDRAW is handed. (A route whose offer is OFFERED is in HANDOVER_WAIT.)
With no OFFERED offer of the number received a DECLINE changes nothing, and an ACCEPT is answered WITHDRAW unless the
offer of that number is ACCEPTED. -/
def Obligations.OutgoingOfferIsAnswered : Prop :=
  (∀ (s : State) (port n l : Nat) (k : LinkSlot) (sequence index : Byte) (r : Line) (o : OutOffer),
    s.line l = some r → r.outOffer = some o → o.state = .offered → r.ask = none →
    (Carries s port sequence index n l k → NoTriggerWaits s →
        (∀ slot q, o.slot = some slot → s.routeRecord slot = some q → q.state = .handoverWait) →
      ∃ t, exec (.acceptReceived port sequence index o.number) s = .next t
        ∧ t.line l = some { r with
            transit := true, outOffer := some { o with state := .accepted, deadline := none } } ∧ t.ts = s.ts
        ∧ ∀ slot q h, o.slot = some slot → s.routeRecord slot = some q → q.handover = some h →
          ∃ q', t.routeRecord slot = some q' ∧ q'.handover = some { h with status := .accepted }
            ∧ (¬ ((∀ x p, x ∈ q.definition.path ++ q.definition.overlap → x.position = some p →
                  s.detection x.element = p.detection) ∧ ∀ f, f ∈ q.flanks → f.state = .held) →
              q'.state = .setting)
            ∧ ((∀ x p, x ∈ q.definition.path ++ q.definition.overlap → x.position = some p →
                  s.detection x.element = p.detection) → (∀ f, f ∈ q.flanks → f.state = .held) →
              OutcomeWritten s t q.route .set
              ∧ q'.state = (if s.mode = .operating ∧ q.hold = false ∧ q.replaced = none
                  ∧ t.conditionFailure slot q' = none then .clearing else .locked)))
    ∧ (Carries s port sequence index n l k → NothingStored s → ∀ reason,
      ∃ t r', exec (.declineReceived port sequence index o.number reason) s = .next t ∧ t.line l = some r'
        ∧ r'.outOffer = none ∧ r'.lastReason = reason ∧ t.ts = s.ts
        ∧ ∀ slot, o.slot = some slot → HandoverFailed s t slot .declined)
    ∧ (o.deadline = some 0 → NothingStored s →
      ∃ t r', exec (.offerDeadlineExpiry l) s = .next t ∧ t.line l = some r' ∧ r'.outOffer = none ∧ t.ts = s.ts
        ∧ (∀ slot, o.slot = some slot → HandoverFailed s t slot .handoverTimeout)
        ∧ (r.slot = some n → s.slot n = some k → k.link = .up → k.transmit.length < 32 → ∃ k', t.slot n = some k'
          ∧ { line := l, payload := .withdraw o.number } ∈ k'.transmit)))
  ∧ ∀ (s : State) (port n l : Nat) (k : LinkSlot) (sequence index number : Byte) (r : Line),
    Carries s port sequence index n l k → NoTriggerWaits s → s.line l = some r → r.slot = some n →
    k.transmit.length < 32 → (∀ o, r.outOffer = some o → o.state = .offered → o.number ≠ number) →
    (∃ t k', exec (.acceptReceived port sequence index number) s = .next t ∧ t = { s with lk := t.lk }
      ∧ t.slot n = some k' ∧ k'.transmit = k.transmit ++
        (if r.outOffer.any (fun o => o.state == .accepted && o.number == number) then []
          else [{ line := l, payload := .withdraw number }]))
    ∧ ∀ reason, ∃ t k', exec (.declineReceived port sequence index number reason) s = .next t
      ∧ t = { s with lk := t.lk } ∧ t.slot n = some k' ∧ k'.transmit = k.transmit

/-- LINE_IMAGE on a line in service: the image of the remote section and the view of the token are written, a section
value outside its set as UNKNOWN, and the conflict mark is set exactly where this end's token and the view are OUT, with
LINE_CHANGE where it was clear. The value of each item whose entry is ASKED, GRANTED or STALE is written into its image,
one outside the set as UNKNOWN; another item's image stays, and where its entry is IDLE with the sweep hold stopped and
the value is a granted one, a FLANK_FREE with the sweep mark is handed and the hold starts; that it carries the entry's
last ask number is the model's choice (log 23). A record in CLEARING or CLEARED is replaced: with REMOTE_NOT_CLEAR where
it leads to the line and the section is not CLEAR, and with FLANK_LOST where it holds a reference by an item whose value
is no longer GRANTED_SATISFIED (R95, R96, R100); that it is FLANK_LOST also where the same image makes the section not
CLEAR rests on the model's choice to write all of the image before the one test of the records (log 7). -/
def Obligations.LineImageIsWritten : Prop :=
  ∀ (s : State) (port n l : Nat) (k : LinkSlot) (sequence index occupancy token : Byte) (items : List Byte) (r : Line)
    (e : Nat) (b : BoundaryBody),
    Carries s port sequence index n l k → s.line l = some r → r.withdrawn = false → r.boundary = some e →
    s.boundaryAt e = some b → NothingStored s →
    ∃ t, exec (.lineImageReceived port sequence index occupancy token items) s = .next t
      ∧ t.remoteImage e = (if occupancy = 0 then .clear else if occupancy = 1 then .occupied else .unknown)
      ∧ (t.line l).map (·.view) = some (viewOf token) ∧ t.ts = s.ts
      ∧ (t.line l).map (·.conflict) = some (decide (r.token = .rest .outward ∧ token = 1))
      ∧ (r.conflict = false → r.token = .rest .outward → token = 1 → t.cp.latches.getLsbD 5 = true)
      ∧ (b.items.length = 8 → ∃ b', t.boundaryAt e = some b' ∧ b'.items.length = 8
        ∧ ∀ (i : Nat) (v : Byte), i < 8 → items[i]? = some v →
          ((s.item l i).state = .asked ∨ (s.item l i).state = .granted ∨ (s.item l i).state = .stale →
            b'.items[i]? = some (if v = 0 then .nothing else if v = 1 then .satisfied else if v = 2 then .unsatisfied
              else .unknown))
          ∧ ((s.item l i).state = .idle ∨ (s.item l i).state = .freeOwed → b'.items[i]? = b.items[i]?)
          ∧ ((s.item l i).state = .idle → v = 1 ∨ v = 2 → (s.item l i).sweepHold = none →
            (t.item l i).sweepHold = some 10
            ∧ (r.slot = some n → k.transmit.length + 8 ≤ 32 → ∃ k', t.slot n = some k'
              ∧ { line := l, payload := .flankFree (BitVec.ofNat 8 i) (s.item l i).ask true } ∈ k'.transmit)))
      ∧ (Ascending s.rsv → ∀ slot q, StandsClear s slot q →
        (q.definition.exit = e → q.handover.isSome → occupancy ≠ 0 →
          HandoverIsLost s t slot q .remoteNotClear)
        ∧ ∀ (i : Nat) (v : Byte), i < 8 → items[i]? = some v → v ≠ 1 → HoldsBy s q (.remoteAlt l i) →
          FlankIsLost s t slot q)

/-- The line reset expires: offers, ask and transit are gone, the token is UNSET and the timer stopped; the border section
is no longer reserved for the line, and the line's neighbour holds no claim. -/
def Obligations.LineResetClearsTheLine : Prop :=
  ∀ (s : State) (l : Nat) (r : Line), s.line l = some r → r.resetTimer = some 0 → NothingStored s →
    ∃ t r', exec (.lineResetExpiry l) s = .next t ∧ t.line l = some r' ∧ r'.inOffer = none ∧ r'.outOffer = none
      ∧ r'.ask = none ∧ r'.transit = false ∧ r'.token = .rest .unset ∧ r'.resetTimer = none
      ∧ t.lockOf r.border ≠ some (.entry l)
      ∧ (∀ c x, t.claimRecord c = some x → ∀ k a g, .neighbour l k a g ∉ x.holders)
      ∧ t.ts = s.ts

/-! Links. -/

/-- LINK_CONTROL: REPORT changes nothing; ENABLE sets the mark, and a slot OFF with a port enters HOLDOFF; MAP of a slot
OFF writes port and inversion, and an enabled slot with a port enters HOLDOFF; MAP of a slot not OFF is refused NOT_OFF,
and of a port that another slot has PORT_IN_USE; a code that names no slot or port is NOT_DEFINED. DISABLE: the slot is
OFF and disabled with its five timers stopped; from UP it is a drop with reason DISABLED. That the port byte of
ENABLE and DISABLE is judged is log 27; the bytes of the answer are the layout of log 15; that a slot which enters
HOLDOFF owes no keep-alive is log 39. -/
def Obligations.LinkControlActs : Prop :=
  (∀ (s : State) (slot port inversion : Byte) (k : LinkSlot), Receives s [.operating] → slot.toNat ≤ 3 →
    s.slot slot.toNat = some k → port.toNat ≤ 3 ∨ port = 0xFF → NothingStored s →
    ∃ t k', exec (.linkControlDisable slot port inversion) s = .next t ∧ t.slot slot.toNat = some k'
      ∧ k'.link = .off ∧ k'.enabled = false ∧ k'.transmit = []
      ∧ k'.holdoff = none ∧ k'.identTimer = none ∧ k'.sendInterval = none ∧ k'.silence = none ∧ k'.image = none
      ∧ k'.port = k.port ∧ k'.inverted = k.inverted
      ∧ (k.link = .up → k'.lastDrop = some .disabled ∧ k'.drops = min 65535 (k.drops + 1))
      ∧ (k.link ≠ .up → k'.drops = k.drops ∧ k'.lastDrop = k.lastDrop)
      ∧ t.cp.answer = some { status := 0x00, data := slotAnswer k' }
      ∧ t.ts = s.ts)
  ∧ (∀ (s : State) (slot port inversion : Byte), FourSlots s → Receives s [.operating] → NoTriggerWaits s →
    3 < slot.toNat ∨ (3 < port.toNat ∧ port ≠ 0xFF) →
    exec (.linkControlEnable slot port inversion) s = .next (refused s 0x01)
    ∧ exec (.linkControlDisable slot port inversion) s = .next (refused s 0x01)
    ∧ exec (.linkControlMap slot port inversion) s = .next (refused s 0x01)
    ∧ (3 < slot.toNat → exec (.linkControlReport slot port inversion) s = .next (refused s 0x01)))
  ∧ ∀ (s : State) (slot port inversion : Byte) (k : LinkSlot), FourSlots s → s.cp.receiver = .receiving →
    slot.toNat ≤ 3 → s.slot slot.toNat = some k →
    (s.mode = .operating ∨ s.mode = .halted →
      exec (.linkControlReport slot port inversion) s = .next (answered s 0x00 (slotAnswer k)))
    ∧ (s.mode = .operating → port.toNat ≤ 3 ∨ port = 0xFF →
      (k.enabled = true → exec (.linkControlEnable slot port inversion) s = .next (answered s 0x00 (slotAnswer k)))
      ∧ (k.enabled = false → ∃ k', exec (.linkControlEnable slot port inversion) s = .next (answered
            { s with lk := s.lk.adjust slot.toNat fun _ => k' } 0x00 (slotAnswer k'))
          ∧ (k.link = .off → k.port.isSome →
              k' = { k with enabled := true, link := .holdoff, holdoff := some 20, identTimer := none,
                            sendInterval := none, silence := none, image := none, transmit := [],
                            keepAlive := false })
          ∧ (k.link ≠ .off ∨ k.port = none → k' = { k with enabled := true })))
    ∧ (s.mode = .operating → port.toNat ≤ 3 ∨ port = 0xFF →
      (k.link ≠ .off → exec (.linkControlMap slot port inversion) s = .next (refused s 0x19))
      ∧ (k.link = .off → port ≠ 0xFF →
        ((∃ n x, n ≠ slot.toNat ∧ s.slot n = some x ∧ x.port = some port.toNat) →
          exec (.linkControlMap slot port inversion) s = .next (refused s 0x1A))
        ∧ ((∀ n x, n ≠ slot.toNat → s.slot n = some x → x.port ≠ some port.toNat) →
          ∃ k', exec (.linkControlMap slot port inversion) s = .next (answered
              { s with lk := s.lk.adjust slot.toNat fun _ => k' } 0x00 (slotAnswer k'))
            ∧ (k.enabled = false → k' = { k with port := some port.toNat, inverted := decide (inversion = 1) })
            ∧ (k.enabled = true →
                k' = { k with port := some port.toNat, inverted := decide (inversion = 1), link := .holdoff,
                              holdoff := some 20, identTimer := none, sendInterval := none, silence := none,
                              image := none, transmit := [], keepAlive := false })))
      ∧ (k.link = .off → port = 0xFF →
        ∃ k', exec (.linkControlMap slot port inversion) s = .next (answered
            { s with lk := s.lk.adjust slot.toNat fun _ => k' } 0x00 (slotAnswer k'))
          ∧ k' = { k with port := none, inverted := decide (inversion = 1) }))

/-- The link timers: hold-off to HUNT with SYNC count 0, IDENT to HOLDOFF without a drop, another IDENT at the send
interval, and silence in UP a drop to HOLDOFF with reason SILENCE. Each line of a slot that drops has link down: its
images and the view are UNKNOWN and the conflict mark clear; an ask that is out ends with the token at its prior value;
an OFFERED offer becomes WITHDRAW_OWED with no route slot, any other stays while its route does; a PENDING_HOST offer is
gone, an ACCEPTED one kept; an ASKED item is FREE_OWED with reason LINK_DOWN and no reference. On a slot with one line
the route of the ask or of the OFFERED offer fails with LINK_DOWN, and a record in CLEARED with a handover on the line
is in LOCKED, replaced, with its signal demanded STOP. One in CLEARING or CLEARED with every condition holding is
replaced with FLANK_LOST where it holds a reference by an item of the line, and with LINK_DOWN where it leads to the
line (R95, R96, R100). That all images of a line are UNKNOWN before the first record is tested for it is log 7; that a
slot which leaves UP, or enters HUNT or HOLDOFF, owes no keep-alive is log 39; the list of characters sent is the
model's own (log 17). -/
def Obligations.LinkTimersExpire : Prop :=
  (∀ (s : State) (n : Nat) (k : LinkSlot), s.slot n = some k → k.link = .up → k.silence = some 0 → NothingStored s →
    ∃ t k', exec (.silenceTimerExpiry n) s = .next t ∧ t.slot n = some k' ∧ k'.link = .holdoff
      ∧ k'.holdoff = some 20 ∧ k'.lastDrop = some .silence ∧ k'.drops = min 65535 (k.drops + 1) ∧ k'.level = 0
      ∧ k'.transmit = [] ∧ t.ts = s.ts ∧ t.cp.latches.getLsbD 5 = true
      -- the lines of the slot
      ∧ (∀ l r, l ∈ k.lines → s.line l = some r → r.slot = some n → ∃ r', t.line l = some r'
        ∧ r'.view = .unknown ∧ r'.conflict = false ∧ r'.inOffer = r.inOffer.filter (·.accepted)
        ∧ (∀ e b, r.boundary = some e → s.boundaryAt e = some b → ∃ b', t.boundaryAt e = some b'
            ∧ b'.image = .unknown ∧ b'.items = b.items.map fun _ => .unknown)
        ∧ (∀ d, r.token = .rest d → r'.token = .rest d)
        ∧ (∀ d, r.token = .asking d → r'.token = .rest d ∧ r'.ask = none)
        ∧ (∀ o, r.outOffer = some o →
            (o.state = .offered → r'.outOffer = some { o with slot := none, state := .withdrawOwed, deadline := none })
            ∧ (o.state ≠ .offered → (∀ m, o.slot = some m → (t.routeRecord m).isSome) → r'.outOffer = some o))
        ∧ ∀ i, i < 8 → (s.item l i).state = .asked →
            t.item l i = { s.item l i with state := .freeOwed, askTimer := none, refs := [], lastReason := 0x0C })
      -- the routes on a line that has the slot to itself
      ∧ ∀ l r, k.lines = [l] → s.line l = some r → r.slot = some n →
        (∀ m q, s.routeRecord m = some q → OnlyRecordOf s m q →
          (∃ a, r.ask = some a ∧ a.slot = m) ∨ (∃ o, r.outOffer = some o ∧ o.state = .offered ∧ o.slot = some m) →
          t.routeRecord m = none ∧ OutcomeWritten s t q.route (.failed .linkDown (some q.definition.exit)))
        ∧ (RoutesAgree s → ∀ m q h, s.routeRecord m = some q → q.state = .cleared → q.handover = some h → h.line = l →
          ∃ q', t.routeRecord m = some q' ∧ q'.state = .locked ∧ q'.replaced.isSome ∧ t.cp.latches.getLsbD 1 = true
            ∧ (s.lockOf q.definition.entry = some (.route m .path) →
                ∀ x, t.signalAt q.definition.entry = some x → x.demanded = .stop))
        ∧ (RoutesAgree s → ∀ m q, StandsClear s m q →
          (∀ i, HoldsBy s q (.remoteAlt l i) → FlankIsLost s t m q)
          ∧ ∀ h, q.handover = some h → h.line = l → HandoverIsLost s t m q .linkDown))
  ∧ ∀ (s : State) (n : Nat) (k : LinkSlot), FourSlots s → s.slot n = some k →
    (k.link = .holdoff → k.holdoff = some 0 → s.mode = .operating ∨ s.mode = .halted →
      exec (.holdoffTimerExpiry n) s = .next { s with lk := s.lk.adjust n fun k =>
        { k.quiet with link := .hunt, sync := 0 } })
    ∧ (k.link = .ident → k.identTimer = some 0 →
      exec (.identTimerExpiry n) s = .next { s with lk := s.lk.adjust n fun k =>
        { k.quiet with link := .holdoff, holdoff := some 20 } })
    ∧ (k.link = .ident → k.sendInterval = some 0 →
      ∃ t k', exec (.identSendIntervalExpiry n) s = .next t ∧ t = { s with lk := s.lk.adjust n fun _ => k' }
        ∧ k' = { k with sendInterval := some 10, out := k'.out }
        ∧ k'.out = k.out ++ (telegramChars 0x01 0 0 (Word.bytes s.areaId ++ Word.bytes k.expected
            ++ [1, BitVec.ofNat 8 k.lines.length, flagByte k.restartPending ||| if k.answerMark then 2 else 0])).map
              fun c => .bits (if k.inverted then ~~~c else c))

/-- The image timer and the transmitter: the timer restarts and each line's image is handed while the transmit list has
room, or on a slot with no lines a keep-alive IDENT falls due, by one mark whatever it was, so that two expiries before
the transmitter is free owe one, which is the model's choice (log 39); a keep-alive that is due is sent first and clears
the mark (log 39), else the oldest telegram with the send sequence, which goes on by one; with neither, nothing changes.
The characters sent join the slot's list of those not yet read, which is the model's own (log 17). -/
def Obligations.ImagesAndTransmitter : Prop :=
  ∀ (s : State) (n : Nat) (k : LinkSlot), FourSlots s → s.slot n = some k → k.link = .up →
    (k.image = some 0 →
      ∃ t k', exec (.imageTimerExpiry n) s = .next t ∧ t = { s with lk := t.lk } ∧ t.slot n = some k'
        ∧ (k.lines = [] → k' = { k with image := some 2, keepAlive := true })
        ∧ (k.lines ≠ [] → k' = { k with image := some 2, transmit := k'.transmit })
        ∧ (∀ x, x ∈ k.transmit → x ∈ k'.transmit)
        ∧ (∀ x, x ∈ k'.transmit → x ∈ k.transmit ∨ ∃ l, l ∈ k.lines ∧ x = { line := l, payload := .lineImage })
        ∧ (k.transmit.length + k.lines.length ≤ 32 → ∀ l r, l ∈ k.lines → s.line l = some r → r.slot = some n →
            { line := l, payload := .lineImage } ∈ k'.transmit))
    ∧ (∀ (x : Telegram) (rest : List Telegram), k.keepAlive = false → k.transmit = x :: rest →
      ∃ t k', exec (.linkTelegramSend n) s = .next t ∧ t = { s with lk := s.lk.adjust n fun _ => k' }
        ∧ k' = { k with transmit := rest, txSequence := k.txSequence + 1, out := k'.out }
        ∧ k'.out = k.out ++ (telegramChars x.payload.kind k.txSequence
            (BitVec.ofNat 8 (((s.line x.line).map (·.index)).getD 0))
            (if x.payload = .lineImage then s.imageBytes x.line else x.payload.bytes)).map
              fun c => .bits (if k.inverted then ~~~c else c))
    ∧ (k.keepAlive = false → k.transmit = [] → exec (.linkTelegramSend n) s = .next s)
    ∧ (k.keepAlive = true →
      ∃ t k', exec (.linkTelegramSend n) s = .next t ∧ t = { s with lk := s.lk.adjust n fun _ => k' }
        ∧ k' = { k with keepAlive := false, out := k'.out }
        ∧ k'.out = k.out ++ (telegramChars 0x01 0 0 (Word.bytes s.areaId ++ Word.bytes k.expected
            ++ [1, BitVec.ofNat 8 k.lines.length, flagByte k.restartPending ||| 2])).map
              fun c => .bits (if k.inverted then ~~~c else c))

/-- A character received in HUNT: SYNC counts, the fourth enters IDENT, any other sets the count to 0. A slot with a port
sends SYNC in HUNT, FILL in IDENT and UP while it sends nothing else, and nothing in OFF and HOLDOFF. -/
def Obligations.HuntCountsSync : Prop :=
  (∀ (k : LinkSlot),
    (k.port = none ∨ k.link = .off ∨ k.link = .holdoff → k.idleChar = none)
    ∧ (k.port.isSome → k.link = .hunt → k.idleChar = some (.bits (if k.inverted then ~~~0x13C else 0x13C)))
    ∧ (k.port.isSome → k.link = .ident ∨ k.link = .up →
        k.idleChar = some (.bits (if k.inverted then ~~~0x100 else 0x100))))
  ∧ ∀ (s : State) (port n : Nat) (k : LinkSlot) (c : LinkChar), s.slotOfPort port = some n → s.slot n = some k →
    k.link = .hunt →
    (k.read c ≠ .sync → exec (.huntCharacter port c) s = .next { s with lk := s.lk.adjust n fun k =>
      { k with sync := 0 } })
    ∧ (k.read c = .sync → k.sync + 1 ≠ 4 → exec (.huntCharacter port c) s = .next { s with
      lk := s.lk.adjust n fun k => { k with sync := k.sync + 1 } })
    ∧ (k.read c = .sync → k.sync + 1 = 4 →
      ∃ t k', exec (.huntCharacter port c) s = .next t ∧ t.slot n = some k' ∧ k'.link = .ident
        ∧ k'.identTimer = some 50 ∧ k'.sendInterval = some 10 ∧ k'.answerMark = false
        ∧ t.es = s.es ∧ t.ts = s.ts ∧ t.rse = s.rse ∧ t.rsv = s.rsv ∧ t.fu = s.fu ∧ t.bu = s.bu)

/-- In UP below the threshold, a stray data character counts a CODE error and a telegram that is discarded the error of
its case: LENGTH, CHECK, or with a valid check UNEXPECTED or LENGTH, which restart the silence timer and keep the
sequence number, as does a telegram for a line that the slot has not. Total and level rise by one and the run of good
telegrams is 0. A telegram for a line that repeats the last sequence number is not handed on and counts a SEQUENCE error;
one with another number than the last or its successor is handed on, as a LINE_IMAGE and a DIR_REFUSE show, and counts
one too. Each error that reaches the threshold is a drop with reason ERRORS. -/
def Obligations.LinkErrorsAreCounted : Prop :=
  -- outside a telegram
  (∀ (s : State) (port n : Nat) (k : LinkSlot) (c : LinkChar) (b : Byte), s.slotOfPort port = some n →
    s.slot n = some k → k.link = .up → k.read c = .data b →
    (max 1 (min 15 k.threshold.toNat) ≤ k.level + 1 →
      ∃ t, exec (.linkStrayCharacter port c) s = .next t ∧ DroppedForErrors t n k .codeError ∧ t.ts = s.ts)
    ∧ (FourSlots s → NoTriggerWaits s → k.level + 1 < max 1 (min 15 k.threshold.toNat) →
      exec (.linkStrayCharacter port c) s = .next { s with lk := s.lk.adjust n fun k =>
        { k with errors := min 65535 (k.errors + 1), lastError := some .codeError, level := k.level + 1,
                 goodRun := 0 } }))
  -- a telegram discarded
  ∧ (∀ (s : State) (port n : Nat) (k : LinkSlot) (chars : List LinkChar) (bytes : List Byte) (error : Reason)
    (number : Option Byte), s.slotOfPort port = some n → s.slot n = some k → k.link = .up →
    chars.map k.read = .openChar :: (bytes.map .data ++ [.close]) → DiscardedFor bytes error number →
    (max 1 (min 15 k.threshold.toNat) ≤ k.level + 1 →
      ∃ t, exec (.linkTelegramRejected port chars) s = .next t ∧ DroppedForErrors t n k error ∧ t.ts = s.ts)
    ∧ (FourSlots s → NoTriggerWaits s → k.level + 1 < max 1 (min 15 k.threshold.toNat) →
      exec (.linkTelegramRejected port chars) s = .next { s with lk := s.lk.adjust n fun k =>
        { k with silence := if number.isSome then some 6 else k.silence, rxSequence := number.or k.rxSequence,
                 errors := min 65535 (k.errors + 1), lastError := some error, level := k.level + 1, goodRun := 0 } }))
  -- a telegram for a line
  ∧ ∀ (s : State) (port n : Nat) (k : LinkSlot) (c : Instr) (sequence index : Byte),
    lineTelegram c = some (port, sequence, index) → s.slotOfPort port = some n → s.slot n = some k → k.link = .up →
    -- the line
    (k.lines[index.toNat]? = none →
      (max 1 (min 15 k.threshold.toNat) ≤ k.level + 1 →
        ∃ t, exec c s = .next t ∧ DroppedForErrors t n k .unexpected ∧ t.ts = s.ts)
      ∧ (FourSlots s → NoTriggerWaits s → k.level + 1 < max 1 (min 15 k.threshold.toNat) →
        exec c s = .next { s with lk := s.lk.adjust n fun k =>
          { k with silence := some 6, rxSequence := some sequence, errors := min 65535 (k.errors + 1),
                   lastError := some .unexpected, level := k.level + 1, goodRun := 0 } }))
    -- the last number again
    ∧ ((k.lines[index.toNat]?).isSome → k.rxSequence = some sequence →
      (max 1 (min 15 k.threshold.toNat) ≤ k.level + 1 →
        ∃ t, exec c s = .next t ∧ DroppedForErrors t n k .sequence ∧ t.ts = s.ts)
      ∧ (FourSlots s → NoTriggerWaits s → k.level + 1 < max 1 (min 15 k.threshold.toNat) →
        exec c s = .next { s with lk := s.lk.adjust n fun k =>
          { k with silence := some 6, errors := min 65535 (k.errors + 1), lastError := some .sequence,
                   level := k.level + 1, goodRun := 0 } }))
    -- a number out of sequence
    ∧ ∀ l last, k.lines[index.toNat]? = some l → k.rxSequence = some last → sequence ≠ last → sequence ≠ last + 1 →
      (max 1 (min 15 k.threshold.toNat) ≤ k.level + 1 →
        ∃ t, exec c s = .next t ∧ DroppedForErrors t n k .sequence ∧ t.ts = s.ts)
      ∧ (k.level + 1 < max 1 (min 15 k.threshold.toNat) →
        ∃ t k', exec c s = .next t ∧ t.slot n = some k' ∧ k'.link = .up ∧ k'.silence = some 6
          ∧ k'.rxSequence = some sequence ∧ k'.errors = min 65535 (k.errors + 1) ∧ k'.lastError = some .sequence
          ∧ k'.level = k.level + 1 ∧ k'.goodRun = 0 ∧ k'.drops = k.drops ∧ t.ts = s.ts
          ∧ (∀ occupancy token items r, c = .lineImageReceived port sequence index occupancy token items →
            s.line l = some r → r.withdrawn = false → (t.line l).map (·.view) = some (viewOf token))
          ∧ ∀ reason r prior, c = .dirRefuseReceived port sequence index reason → s.line l = some r →
            r.token = .asking prior → r.ask.isSome → (t.line l).map (·.lastReason) = some reason)

/-- IDENT received: in IDENT one that matches, without the answer flag, sets the answer mark and the peer restart; with
it, the slot enters UP and each of its lines has link up, with the peer's restart (R136, R163): an offer that is owed a
WITHDRAW is gone, and after a restart the ACCEPTED offer of a route with steps left is LAPSED. Then, on a slot with one
line, the route's handover is OFFERED with the offer's number, and stays as it was where the record is in TIMED_RELEASE
(R123 beside R163 is log 31), and a record in CLEARED is in LOCKED, replaced. An IDENT that does not match keeps the first test that fails,
with LINE_CHANGE; in UP one with the answer flag restarts the silence timer, and one without it is a drop with reason
PEER_RESTART. -/
def Obligations.IdentIsJudged : Prop :=
  (∀ (s : State) (port n : Nat) (k : LinkSlot) (sequence index : Byte) (sender addressee : Word)
    (level lineCount flags : Byte), s.slotOfPort port = some n → s.slot n = some k → NoTriggerWaits s →
    (k.link = .ident → sender = k.expected → addressee = s.areaId → level = 1 → lineCount.toNat = k.lines.length →
      flags.getLsbD 1 = false →
      ∃ t k', exec (.identReceived port sequence index sender addressee level lineCount flags) s = .next t
        ∧ t.slot n = some k' ∧ k'.answerMark = true ∧ k'.link = .ident
        ∧ k'.peerRestart = (k.peerRestart || flags.getLsbD 0)
        ∧ t.es = s.es ∧ t.ts = s.ts ∧ t.rse = s.rse ∧ t.rsv = s.rsv ∧ t.fu = s.fu ∧ t.bu = s.bu)
    ∧ (k.link = .ident → ∀ reason : Option Reason,
        reason = (if sender ≠ k.expected then some .wrongPeer else if addressee ≠ s.areaId then some .wrongAddressee
          else if level ≠ 1 then some .level else if lineCount.toNat ≠ k.lines.length then some .lineCount
          else none) → reason.isSome →
      exec (.identReceived port sequence index sender addressee level lineCount flags) s = .next { s with
        lk := s.lk.adjust n fun k => { k with mismatch := reason }
        cp := { s.cp with latches := s.cp.latches ||| 0x020 } })
    ∧ (k.link = .up → flags.getLsbD 1 = true →
      exec (.identReceived port sequence index sender addressee level lineCount flags) s = .next { s with
        lk := s.lk.adjust n fun k => { k with silence := some 6 } })
    ∧ (k.link = .up → flags.getLsbD 1 = false →
      ∃ t k', exec (.identReceived port sequence index sender addressee level lineCount flags) s = .next t
        ∧ t.slot n = some k' ∧ k'.link = .holdoff ∧ k'.holdoff = some 20 ∧ k'.lastDrop = some .peerRestart
        ∧ k'.drops = min 65535 (k.drops + 1) ∧ k'.peerRestart = true ∧ k'.level = 0 ∧ k'.goodRun = 0
        ∧ k'.silence = none ∧ k'.image = none ∧ k'.transmit = [] ∧ t.cp.latches.getLsbD 5 = true ∧ t.ts = s.ts))
  ∧ ∀ (s : State) (port n : Nat) (k : LinkSlot) (sequence index flags : Byte) (restarted : Bool),
    s.slotOfPort port = some n → s.slot n = some k → k.link = .ident → flags.getLsbD 1 = true →
    restarted = (k.peerRestart || flags.getLsbD 0) → k.lines.length ≤ 8 → NothingStored s →
    ∃ t k', exec (.identReceived port sequence index k.expected s.areaId 1 (BitVec.ofNat 8 k.lines.length) flags) s
        = .next t
      ∧ t.slot n = some k' ∧ k'.link = .up ∧ k'.silence = some 6 ∧ k'.image = some 2
      ∧ k'.identTimer = none ∧ k'.sendInterval = none ∧ k'.mismatch = none ∧ k'.restartPending = false
      ∧ k'.peerRestart = false ∧ k'.txSequence = 0 ∧ k'.rxSequence = none ∧ k'.level = 0 ∧ k'.goodRun = 0
      ∧ k'.answerMark = true ∧ t.cp.latches.getLsbD 5 = true ∧ t.ts = s.ts
      ∧ (∀ l r, l ∈ k.lines → s.line l = some r → ∃ r', t.line l = some r' ∧ r'.resetTimer = none
          ∧ (restarted = true → r.token = .rest .inward → r'.token = .rest .unset)
          ∧ (restarted = true → ∀ o, r.inOffer = some o → o.accepted = true → r'.inOffer = none
              ∧ r'.transit = false ∧ t.lockOf r.border ≠ some (.entry l))
          ∧ ∀ o, r.outOffer = some o →
              (o.state = .withdrawOwed → r'.outOffer = none ∧ r'.transit = false)
              ∧ (o.state = .accepted →
                  (∀ m q, o.slot = some m → s.routeRecord m = some q → q.steps ≠ []) →
                  r'.outOffer = some (if restarted then { o with state := .lapsed } else o)))
      ∧ (∀ l r o m q, k.lines = [l] → s.line l = some r → restarted = true → r.outOffer = some o → o.state = .accepted →
          o.slot = some m → s.routeRecord m = some q → q.steps ≠ [] → ∃ q', t.routeRecord m = some q'
            ∧ (q.state = .timedRelease → q'.handover = q.handover)
            ∧ (q.state ≠ .timedRelease →
                q'.handover = q.handover.map (fun h => { h with status := .offered, offer := some o.number }))
            ∧ (q.state = .cleared → q.handover.isSome →
                q'.state = .locked ∧ q'.replaced.isSome ∧ t.cp.latches.getLsbD 1 = true))
      ∧ (∀ l r, k.lines = [l] → s.line l = some r → r.slot = some n → s.rsv = [] →
          { line := l, payload := .lineImage } ∈ k'.transmit)

/-- Every step keeps the claims and the routes in agreement. A claim record has a holder, and an element's claim reference
names the record of a claim on it (R11, R72). And together: only a route being set has a flank reference that waits; an
ask is out exactly while the token is ASKING, and an outgoing offer stands only at the token OUT, or at ASKING from OUT
(R148); the route of an open ask or offer waits for it (R149, R153); a signal is demanded PROCEED only while it is the
entry signal of a record in CLEARING or CLEARED (R97). -/
def Obligations.OperationStaysConsistent : Prop :=
  (∀ s t : State, ClaimsAgree s → step s = .next t → ClaimsAgree t)
  ∧ ∀ s t : State, RoutesAgree s → step s = .next t → RoutesAgree t
end

