-- ==== Sys2Proof/Laws/State.lean ====
section
/-! SUPPORT. What one named update leaves unchanged, field by field, and what it writes. -/

namespace Sys2Proof.Machine

@[simp] theorem State.mode_reply (s : State) (st : Status) (d : List Byte) : (s.reply st d).mode = s.mode := rfl
@[simp] theorem State.areaId_reply (s : State) (st : Status) (d : List Byte) : (s.reply st d).areaId = s.areaId := rfl
@[simp] theorem State.ts_reply (s : State) (st : Status) (d : List Byte) : (s.reply st d).ts = s.ts := rfl
@[simp] theorem State.es_reply (s : State) (st : Status) (d : List Byte) : (s.reply st d).es = s.es := rfl
@[simp] theorem State.fi_reply (s : State) (st : Status) (d : List Byte) : (s.reply st d).fi = s.fi := rfl
@[simp] theorem State.rse_reply (s : State) (st : Status) (d : List Byte) : (s.reply st d).rse = s.rse := rfl
@[simp] theorem State.rsv_reply (s : State) (st : Status) (d : List Byte) : (s.reply st d).rsv = s.rsv := rfl
@[simp] theorem State.fu_reply (s : State) (st : Status) (d : List Byte) : (s.reply st d).fu = s.fu := rfl
@[simp] theorem State.lk_reply (s : State) (st : Status) (d : List Byte) : (s.reply st d).lk = s.lk := rfl
@[simp] theorem State.bu_reply (s : State) (st : Status) (d : List Byte) : (s.reply st d).bu = s.bu := rfl
@[simp] theorem State.fresh_reply (s : State) (st : Status) (d : List Byte) : (s.reply st d).fresh = s.fresh := rfl
@[simp] theorem State.pending_reply (s : State) (st : Status) (d : List Byte) : (s.reply st d).pending = s.pending := rfl

@[simp] theorem State.mode_latch (s : State) (n : Notice) : (s.latch n).mode = s.mode := rfl
@[simp] theorem State.areaId_latch (s : State) (n : Notice) : (s.latch n).areaId = s.areaId := rfl
@[simp] theorem State.ts_latch (s : State) (n : Notice) : (s.latch n).ts = s.ts := rfl
@[simp] theorem State.es_latch (s : State) (n : Notice) : (s.latch n).es = s.es := rfl
@[simp] theorem State.fi_latch (s : State) (n : Notice) : (s.latch n).fi = s.fi := rfl
@[simp] theorem State.rse_latch (s : State) (n : Notice) : (s.latch n).rse = s.rse := rfl
@[simp] theorem State.rsv_latch (s : State) (n : Notice) : (s.latch n).rsv = s.rsv := rfl
@[simp] theorem State.fu_latch (s : State) (n : Notice) : (s.latch n).fu = s.fu := rfl
@[simp] theorem State.lk_latch (s : State) (n : Notice) : (s.latch n).lk = s.lk := rfl
@[simp] theorem State.bu_latch (s : State) (n : Notice) : (s.latch n).bu = s.bu := rfl
@[simp] theorem State.fresh_latch (s : State) (n : Notice) : (s.latch n).fresh = s.fresh := rfl
@[simp] theorem State.pending_latch (s : State) (n : Notice) : (s.latch n).pending = s.pending := rfl

@[simp] theorem State.mode_trigger (s : State) : (s.trigger).mode = s.mode := rfl
@[simp] theorem State.areaId_trigger (s : State) : (s.trigger).areaId = s.areaId := rfl
@[simp] theorem State.cp_trigger (s : State) : (s.trigger).cp = s.cp := rfl
@[simp] theorem State.ts_trigger (s : State) : (s.trigger).ts = s.ts := rfl
@[simp] theorem State.es_trigger (s : State) : (s.trigger).es = s.es := rfl
@[simp] theorem State.fi_trigger (s : State) : (s.trigger).fi = s.fi := rfl
@[simp] theorem State.rsv_trigger (s : State) : (s.trigger).rsv = s.rsv := rfl
@[simp] theorem State.fu_trigger (s : State) : (s.trigger).fu = s.fu := rfl
@[simp] theorem State.lk_trigger (s : State) : (s.trigger).lk = s.lk := rfl
@[simp] theorem State.bu_trigger (s : State) : (s.trigger).bu = s.bu := rfl
@[simp] theorem State.fresh_trigger (s : State) : (s.trigger).fresh = s.fresh := rfl
@[simp] theorem State.pending_trigger (s : State) : (s.trigger).pending = s.pending := rfl

@[simp] theorem State.mode_modElement (s : State) (e : Nat) (f : Element → Element) : (s.modElement e f).mode = s.mode := rfl
@[simp] theorem State.areaId_modElement (s : State) (e : Nat) (f : Element → Element) : (s.modElement e f).areaId = s.areaId := rfl
@[simp] theorem State.cp_modElement (s : State) (e : Nat) (f : Element → Element) : (s.modElement e f).cp = s.cp := rfl
@[simp] theorem State.ts_modElement (s : State) (e : Nat) (f : Element → Element) : (s.modElement e f).ts = s.ts := rfl
@[simp] theorem State.fi_modElement (s : State) (e : Nat) (f : Element → Element) : (s.modElement e f).fi = s.fi := rfl
@[simp] theorem State.rse_modElement (s : State) (e : Nat) (f : Element → Element) : (s.modElement e f).rse = s.rse := rfl
@[simp] theorem State.rsv_modElement (s : State) (e : Nat) (f : Element → Element) : (s.modElement e f).rsv = s.rsv := rfl
@[simp] theorem State.fu_modElement (s : State) (e : Nat) (f : Element → Element) : (s.modElement e f).fu = s.fu := rfl
@[simp] theorem State.lk_modElement (s : State) (e : Nat) (f : Element → Element) : (s.modElement e f).lk = s.lk := rfl
@[simp] theorem State.bu_modElement (s : State) (e : Nat) (f : Element → Element) : (s.modElement e f).bu = s.bu := rfl
@[simp] theorem State.fresh_modElement (s : State) (e : Nat) (f : Element → Element) : (s.modElement e f).fresh = s.fresh := rfl
@[simp] theorem State.pending_modElement (s : State) (e : Nat) (f : Element → Element) : (s.modElement e f).pending = s.pending := rfl

@[simp] theorem State.mode_modRecord (s : State) (n : Nat) (f : RouteRecord → RouteRecord) : (s.modRecord n f).mode = s.mode := rfl
@[simp] theorem State.areaId_modRecord (s : State) (n : Nat) (f : RouteRecord → RouteRecord) : (s.modRecord n f).areaId = s.areaId := rfl
@[simp] theorem State.cp_modRecord (s : State) (n : Nat) (f : RouteRecord → RouteRecord) : (s.modRecord n f).cp = s.cp := rfl
@[simp] theorem State.ts_modRecord (s : State) (n : Nat) (f : RouteRecord → RouteRecord) : (s.modRecord n f).ts = s.ts := rfl
@[simp] theorem State.es_modRecord (s : State) (n : Nat) (f : RouteRecord → RouteRecord) : (s.modRecord n f).es = s.es := rfl
@[simp] theorem State.fi_modRecord (s : State) (n : Nat) (f : RouteRecord → RouteRecord) : (s.modRecord n f).fi = s.fi := rfl
@[simp] theorem State.rse_modRecord (s : State) (n : Nat) (f : RouteRecord → RouteRecord) : (s.modRecord n f).rse = s.rse := rfl
@[simp] theorem State.fu_modRecord (s : State) (n : Nat) (f : RouteRecord → RouteRecord) : (s.modRecord n f).fu = s.fu := rfl
@[simp] theorem State.lk_modRecord (s : State) (n : Nat) (f : RouteRecord → RouteRecord) : (s.modRecord n f).lk = s.lk := rfl
@[simp] theorem State.bu_modRecord (s : State) (n : Nat) (f : RouteRecord → RouteRecord) : (s.modRecord n f).bu = s.bu := rfl
@[simp] theorem State.fresh_modRecord (s : State) (n : Nat) (f : RouteRecord → RouteRecord) : (s.modRecord n f).fresh = s.fresh := rfl
@[simp] theorem State.pending_modRecord (s : State) (n : Nat) (f : RouteRecord → RouteRecord) : (s.modRecord n f).pending = s.pending := rfl

@[simp] theorem State.mode_modClaim (s : State) (n : Nat) (f : Claim → Claim) : (s.modClaim n f).mode = s.mode := rfl
@[simp] theorem State.areaId_modClaim (s : State) (n : Nat) (f : Claim → Claim) : (s.modClaim n f).areaId = s.areaId := rfl
@[simp] theorem State.cp_modClaim (s : State) (n : Nat) (f : Claim → Claim) : (s.modClaim n f).cp = s.cp := rfl
@[simp] theorem State.ts_modClaim (s : State) (n : Nat) (f : Claim → Claim) : (s.modClaim n f).ts = s.ts := rfl
@[simp] theorem State.es_modClaim (s : State) (n : Nat) (f : Claim → Claim) : (s.modClaim n f).es = s.es := rfl
@[simp] theorem State.fi_modClaim (s : State) (n : Nat) (f : Claim → Claim) : (s.modClaim n f).fi = s.fi := rfl
@[simp] theorem State.rse_modClaim (s : State) (n : Nat) (f : Claim → Claim) : (s.modClaim n f).rse = s.rse := rfl
@[simp] theorem State.rsv_modClaim (s : State) (n : Nat) (f : Claim → Claim) : (s.modClaim n f).rsv = s.rsv := rfl
@[simp] theorem State.lk_modClaim (s : State) (n : Nat) (f : Claim → Claim) : (s.modClaim n f).lk = s.lk := rfl
@[simp] theorem State.bu_modClaim (s : State) (n : Nat) (f : Claim → Claim) : (s.modClaim n f).bu = s.bu := rfl
@[simp] theorem State.fresh_modClaim (s : State) (n : Nat) (f : Claim → Claim) : (s.modClaim n f).fresh = s.fresh := rfl
@[simp] theorem State.pending_modClaim (s : State) (n : Nat) (f : Claim → Claim) : (s.modClaim n f).pending = s.pending := rfl

@[simp] theorem State.mode_setItem (s : State) (l k : Nat) (r : RemoteItem) : (s.setItem l k r).mode = s.mode := rfl
@[simp] theorem State.areaId_setItem (s : State) (l k : Nat) (r : RemoteItem) : (s.setItem l k r).areaId = s.areaId := rfl
@[simp] theorem State.cp_setItem (s : State) (l k : Nat) (r : RemoteItem) : (s.setItem l k r).cp = s.cp := rfl
@[simp] theorem State.ts_setItem (s : State) (l k : Nat) (r : RemoteItem) : (s.setItem l k r).ts = s.ts := rfl
@[simp] theorem State.es_setItem (s : State) (l k : Nat) (r : RemoteItem) : (s.setItem l k r).es = s.es := rfl
@[simp] theorem State.fi_setItem (s : State) (l k : Nat) (r : RemoteItem) : (s.setItem l k r).fi = s.fi := rfl
@[simp] theorem State.rse_setItem (s : State) (l k : Nat) (r : RemoteItem) : (s.setItem l k r).rse = s.rse := rfl
@[simp] theorem State.rsv_setItem (s : State) (l k : Nat) (r : RemoteItem) : (s.setItem l k r).rsv = s.rsv := rfl
@[simp] theorem State.lk_setItem (s : State) (l k : Nat) (r : RemoteItem) : (s.setItem l k r).lk = s.lk := rfl
@[simp] theorem State.bu_setItem (s : State) (l k : Nat) (r : RemoteItem) : (s.setItem l k r).bu = s.bu := rfl
@[simp] theorem State.fresh_setItem (s : State) (l k : Nat) (r : RemoteItem) : (s.setItem l k r).fresh = s.fresh := rfl
@[simp] theorem State.pending_setItem (s : State) (l k : Nat) (r : RemoteItem) : (s.setItem l k r).pending = s.pending := rfl

@[simp] theorem State.mode_modLine (s : State) (l : Nat) (f : Line → Line) : (s.modLine l f).mode = s.mode := rfl
@[simp] theorem State.areaId_modLine (s : State) (l : Nat) (f : Line → Line) : (s.modLine l f).areaId = s.areaId := rfl
@[simp] theorem State.cp_modLine (s : State) (l : Nat) (f : Line → Line) : (s.modLine l f).cp = s.cp := rfl
@[simp] theorem State.ts_modLine (s : State) (l : Nat) (f : Line → Line) : (s.modLine l f).ts = s.ts := rfl
@[simp] theorem State.es_modLine (s : State) (l : Nat) (f : Line → Line) : (s.modLine l f).es = s.es := rfl
@[simp] theorem State.fi_modLine (s : State) (l : Nat) (f : Line → Line) : (s.modLine l f).fi = s.fi := rfl
@[simp] theorem State.rse_modLine (s : State) (l : Nat) (f : Line → Line) : (s.modLine l f).rse = s.rse := rfl
@[simp] theorem State.rsv_modLine (s : State) (l : Nat) (f : Line → Line) : (s.modLine l f).rsv = s.rsv := rfl
@[simp] theorem State.fu_modLine (s : State) (l : Nat) (f : Line → Line) : (s.modLine l f).fu = s.fu := rfl
@[simp] theorem State.lk_modLine (s : State) (l : Nat) (f : Line → Line) : (s.modLine l f).lk = s.lk := rfl
@[simp] theorem State.fresh_modLine (s : State) (l : Nat) (f : Line → Line) : (s.modLine l f).fresh = s.fresh := rfl
@[simp] theorem State.pending_modLine (s : State) (l : Nat) (f : Line → Line) : (s.modLine l f).pending = s.pending := rfl

@[simp] theorem State.mode_modSlot (s : State) (n : Nat) (f : LinkSlot → LinkSlot) : (s.modSlot n f).mode = s.mode := rfl
@[simp] theorem State.areaId_modSlot (s : State) (n : Nat) (f : LinkSlot → LinkSlot) : (s.modSlot n f).areaId = s.areaId := rfl
@[simp] theorem State.cp_modSlot (s : State) (n : Nat) (f : LinkSlot → LinkSlot) : (s.modSlot n f).cp = s.cp := rfl
@[simp] theorem State.ts_modSlot (s : State) (n : Nat) (f : LinkSlot → LinkSlot) : (s.modSlot n f).ts = s.ts := rfl
@[simp] theorem State.es_modSlot (s : State) (n : Nat) (f : LinkSlot → LinkSlot) : (s.modSlot n f).es = s.es := rfl
@[simp] theorem State.fi_modSlot (s : State) (n : Nat) (f : LinkSlot → LinkSlot) : (s.modSlot n f).fi = s.fi := rfl
@[simp] theorem State.rse_modSlot (s : State) (n : Nat) (f : LinkSlot → LinkSlot) : (s.modSlot n f).rse = s.rse := rfl
@[simp] theorem State.rsv_modSlot (s : State) (n : Nat) (f : LinkSlot → LinkSlot) : (s.modSlot n f).rsv = s.rsv := rfl
@[simp] theorem State.fu_modSlot (s : State) (n : Nat) (f : LinkSlot → LinkSlot) : (s.modSlot n f).fu = s.fu := rfl
@[simp] theorem State.bu_modSlot (s : State) (n : Nat) (f : LinkSlot → LinkSlot) : (s.modSlot n f).bu = s.bu := rfl
@[simp] theorem State.fresh_modSlot (s : State) (n : Nat) (f : LinkSlot → LinkSlot) : (s.modSlot n f).fresh = s.fresh := rfl
@[simp] theorem State.pending_modSlot (s : State) (n : Nat) (f : LinkSlot → LinkSlot) : (s.modSlot n f).pending = s.pending := rfl

@[simp] theorem State.mode_setSegment (s : State) (g : Nat) (r : Segment) : (s.setSegment g r).mode = s.mode := rfl
@[simp] theorem State.areaId_setSegment (s : State) (g : Nat) (r : Segment) : (s.setSegment g r).areaId = s.areaId := rfl
@[simp] theorem State.cp_setSegment (s : State) (g : Nat) (r : Segment) : (s.setSegment g r).cp = s.cp := rfl
@[simp] theorem State.es_setSegment (s : State) (g : Nat) (r : Segment) : (s.setSegment g r).es = s.es := rfl
@[simp] theorem State.fi_setSegment (s : State) (g : Nat) (r : Segment) : (s.setSegment g r).fi = s.fi := rfl
@[simp] theorem State.rse_setSegment (s : State) (g : Nat) (r : Segment) : (s.setSegment g r).rse = s.rse := rfl
@[simp] theorem State.rsv_setSegment (s : State) (g : Nat) (r : Segment) : (s.setSegment g r).rsv = s.rsv := rfl
@[simp] theorem State.fu_setSegment (s : State) (g : Nat) (r : Segment) : (s.setSegment g r).fu = s.fu := rfl
@[simp] theorem State.lk_setSegment (s : State) (g : Nat) (r : Segment) : (s.setSegment g r).lk = s.lk := rfl
@[simp] theorem State.bu_setSegment (s : State) (g : Nat) (r : Segment) : (s.setSegment g r).bu = s.bu := rfl
@[simp] theorem State.fresh_setSegment (s : State) (g : Nat) (r : Segment) : (s.setSegment g r).fresh = s.fresh := rfl
@[simp] theorem State.pending_setSegment (s : State) (g : Nat) (r : Segment) : (s.setSegment g r).pending = s.pending := rfl

@[simp] theorem State.mode_done (s : State) (d : List Byte) : (s.done d).mode = s.mode := rfl
@[simp] theorem State.mode_refuse (s : State) (r : Reason) (e : Option Nat) : (s.refuse r e).mode = s.mode := rfl
@[simp] theorem State.areaId_done (s : State) (d : List Byte) : (s.done d).areaId = s.areaId := rfl
@[simp] theorem State.areaId_refuse (s : State) (r : Reason) (e : Option Nat) : (s.refuse r e).areaId = s.areaId := rfl
@[simp] theorem State.ts_done (s : State) (d : List Byte) : (s.done d).ts = s.ts := rfl
@[simp] theorem State.ts_refuse (s : State) (r : Reason) (e : Option Nat) : (s.refuse r e).ts = s.ts := rfl
@[simp] theorem State.es_done (s : State) (d : List Byte) : (s.done d).es = s.es := rfl
@[simp] theorem State.es_refuse (s : State) (r : Reason) (e : Option Nat) : (s.refuse r e).es = s.es := rfl
@[simp] theorem State.fi_done (s : State) (d : List Byte) : (s.done d).fi = s.fi := rfl
@[simp] theorem State.fi_refuse (s : State) (r : Reason) (e : Option Nat) : (s.refuse r e).fi = s.fi := rfl
@[simp] theorem State.rse_done (s : State) (d : List Byte) : (s.done d).rse = s.rse := rfl
@[simp] theorem State.rse_refuse (s : State) (r : Reason) (e : Option Nat) : (s.refuse r e).rse = s.rse := rfl
@[simp] theorem State.rsv_done (s : State) (d : List Byte) : (s.done d).rsv = s.rsv := rfl
@[simp] theorem State.rsv_refuse (s : State) (r : Reason) (e : Option Nat) : (s.refuse r e).rsv = s.rsv := rfl
@[simp] theorem State.fu_done (s : State) (d : List Byte) : (s.done d).fu = s.fu := rfl
@[simp] theorem State.fu_refuse (s : State) (r : Reason) (e : Option Nat) : (s.refuse r e).fu = s.fu := rfl
@[simp] theorem State.lk_done (s : State) (d : List Byte) : (s.done d).lk = s.lk := rfl
@[simp] theorem State.lk_refuse (s : State) (r : Reason) (e : Option Nat) : (s.refuse r e).lk = s.lk := rfl
@[simp] theorem State.bu_done (s : State) (d : List Byte) : (s.done d).bu = s.bu := rfl
@[simp] theorem State.bu_refuse (s : State) (r : Reason) (e : Option Nat) : (s.refuse r e).bu = s.bu := rfl
@[simp] theorem State.fresh_done (s : State) (d : List Byte) : (s.done d).fresh = s.fresh := rfl
@[simp] theorem State.fresh_refuse (s : State) (r : Reason) (e : Option Nat) : (s.refuse r e).fresh = s.fresh := rfl
@[simp] theorem State.pending_done (s : State) (d : List Byte) : (s.done d).pending = s.pending := rfl
@[simp] theorem State.pending_refuse (s : State) (r : Reason) (e : Option Nat) : (s.refuse r e).pending = s.pending := rfl

@[simp] theorem State.receiver_reply (s : State) (st : Status) (d : List Byte) :
    (s.reply st d).cp.receiver = .answering := rfl
@[simp] theorem State.answer_reply (s : State) (st : Status) (d : List Byte) :
    (s.reply st d).cp.answer = some { status := st.code, data := d } := rfl
@[simp] theorem State.latches_reply (s : State) (st : Status) (d : List Byte) :
    (s.reply st d).cp.latches = s.cp.latches := rfl
@[simp] theorem State.latches_latch (s : State) (n : Notice) :
    (s.latch n).cp.latches = s.cp.latches ||| n.bit := rfl
@[simp] theorem State.enables_latch (s : State) (n : Notice) : (s.latch n).cp.enables = s.cp.enables := rfl
@[simp] theorem State.master_latch (s : State) (n : Notice) : (s.latch n).cp.master = s.cp.master := rfl
@[simp] theorem State.receiver_latch (s : State) (n : Notice) : (s.latch n).cp.receiver = s.cp.receiver := rfl
@[simp] theorem State.answer_latch (s : State) (n : Notice) : (s.latch n).cp.answer = s.cp.answer := rfl
@[simp] theorem State.triggers_trigger (s : State) : s.trigger.rse.triggers = s.rse.triggers + 1 := rfl
@[simp] theorem State.queue_trigger (s : State) : s.trigger.rse.queue = s.rse.queue := rfl
@[simp] theorem State.table_trigger (s : State) : s.trigger.rse.table = s.rse.table := rfl
@[simp] theorem State.es_modElement (s : State) (e : Nat) (f : Element → Element) :
    (s.modElement e f).es = s.es.adjust e f := rfl
@[simp] theorem State.rsv_modRecord (s : State) (n : Nat) (f : RouteRecord → RouteRecord) :
    (s.modRecord n f).rsv = s.rsv.adjust n f := rfl
@[simp] theorem State.bu_modLine (s : State) (l : Nat) (f : Line → Line) :
    (s.modLine l f).bu = s.bu.adjust l f := rfl
@[simp] theorem State.lk_modSlot (s : State) (n : Nat) (f : LinkSlot → LinkSlot) :
    (s.modSlot n f).lk = s.lk.adjust n f := rfl

/-- A request in an accepted mode is taken by its rule. -/
theorem State.request_taken {s : State} {modes : List Mode} {rule : State → State}
    (hr : s.cp.receiver = .receiving) (hm : s.mode ∈ modes) : s.request modes rule = rule s := by
  simp [State.request, hr, hm]

/-- A request in a mode that does not accept it is answered WRONG_MODE. -/
theorem State.request_wrongMode {s : State} {modes : List Mode} {rule : State → State}
    (hr : s.cp.receiver = .receiving) (hm : s.mode ∉ modes) : s.request modes rule = s.reply .wrongMode [] := by
  simp [State.request, hr, hm]

/-- A frame that completes while the receiver is not RECEIVING takes no request. -/
theorem State.request_idle {s : State} {modes : List Mode} {rule : State → State}
    (hr : s.cp.receiver ≠ .receiving) : s.request modes rule = s := by
  simp [State.request, hr]

/-! What the device puts on data-out (R182, R183). -/

theorem State.dataOut_idle {s : State} (h : s.cp.receiver = .idle) (i : Nat) : s.dataOut i = none := by
  simp only [State.dataOut, h]
theorem State.dataOut_receiving {s : State} (h : s.cp.receiver = .receiving) (i : Nat) : s.dataOut i = some 0xFF := by
  simp only [State.dataOut, h]
theorem State.dataOut_answering {s : State} (h : s.cp.receiver = .answering) (i : Nat) :
    s.dataOut i = some ((s.response[i]?).getD 0xFF) := by
  simp only [State.dataOut, h]
theorem State.response_of_answer {s : State} {a : Answer} (h : s.cp.answer = some a) :
    s.response = List.replicate (Config.answerLead s.fresh % 9) 0xFF ++ a.frame := by
  simp only [State.response, h, Option.map_some, Option.getD_some]

/-- A form that no reading fits is not mended by a further entry (R47). -/
theorem State.readEntry_nil (s : State) (a : Nat) (tied : List Nat) (x : PathEntry × Nat) :
    s.readEntry a tied [] x = [] := by
  simp only [State.readEntry, List.map_nil, List.filter_nil, List.min?_nil, Option.map_none, Option.toList_none, ite_self,
    List.append_nil]
  split <;> rfl

end Sys2Proof.Machine
end

