-- ==== Sys2Proof/Laws/Frames.lean ====
section
/-! SUPPORT. One frame per shared operation: what the operations of the blocks leave alone (`Kept`), the topology store
and the queue of commands among it. -/

namespace Sys2Proof.Machine

set_option linter.unusedSimpArgs false

/-- The identifiers of a table. -/
def Table.ids {α : Type} (t : Table α) : List Nat := t.map fun p => p.1

/-- What no operation of a block writes: modes, store, receiver and enables of the port, the counters and the sender's
place of the field interface, the identifiers of the records built at START, the free-value counter and the queue. -/
structure Kept where
  mode : Mode
  areaId : Word
  ts : Store
  receiver : Receiver
  answer : Option Answer
  enables : BitVec 9
  master : Bool
  unmapped : Nat
  badCheck : Nat
  lastSent : Nat
  out : List (List Byte)
  elements : List Nat
  routes : List Nat
  groups : List Nat
  slots : List Nat
  lines : List Nat
  fresh : Nat
  pending : List Instr

def State.kept (s : State) : Kept where
  mode := s.mode
  areaId := s.areaId
  ts := s.ts
  receiver := s.cp.receiver
  answer := s.cp.answer
  enables := s.cp.enables
  master := s.cp.master
  unmapped := s.fi.unmapped
  badCheck := s.fi.badCheck
  lastSent := s.fi.lastSent
  out := s.fi.out
  elements := s.es.ids
  routes := s.rse.table.ids
  groups := s.fu.groups.ids
  slots := s.lk.ids
  lines := s.bu.ids
  fresh := s.fresh
  pending := s.pending

@[simp] theorem Table.ids_adjust {α : Type} (t : Table α) (k : Nat) (f : α → α) :
    Table.ids (Table.adjust t k f) = t.ids := by
  induction t with
  | nil => rfl
  | cons p r ih =>
    simp only [Table.ids, Table.adjust, List.map_cons] at ih ⊢
    rw [ih]
    split <;> rfl

@[simp] theorem State.kept_modElement (s : State) (e : Nat) (f : Element → Element) :
    (s.modElement e f).kept = s.kept := by simp [State.kept]
@[simp] theorem State.kept_modRecord (s : State) (n : Nat) (f : RouteRecord → RouteRecord) :
    (s.modRecord n f).kept = s.kept := by simp [State.kept]
@[simp] theorem State.kept_modClaim (s : State) (n : Nat) (f : Claim → Claim) :
    (s.modClaim n f).kept = s.kept := rfl
@[simp] theorem State.kept_setItem (s : State) (l k : Nat) (r : RemoteItem) : (s.setItem l k r).kept = s.kept := rfl
@[simp] theorem State.kept_modLine (s : State) (l : Nat) (f : Line → Line) :
    (s.modLine l f).kept = s.kept := by simp [State.kept]
@[simp] theorem State.kept_modSlot (s : State) (n : Nat) (f : LinkSlot → LinkSlot) :
    (s.modSlot n f).kept = s.kept := by simp [State.kept]
@[simp] theorem State.kept_trigger (s : State) : s.trigger.kept = s.kept := rfl
@[simp] theorem State.kept_latch (s : State) (n : Notice) : (s.latch n).kept = s.kept := rfl
@[simp] theorem State.kept_spent (s : State) : s.spent.kept = s.kept := rfl

@[simp] theorem State.kept_rsv (s : State) (r : Table RouteRecord) : State.kept { s with rsv := r } = s.kept := rfl
@[simp] theorem State.kept_queue (s : State) (q : List QueueEntry) :
    State.kept { s with rse := { s.rse with queue := q } } = s.kept := rfl
@[simp] theorem State.kept_claims (s : State) (c : Table Claim) :
    State.kept { s with fu := { s.fu with claims := c } } = s.kept := rfl
@[simp] theorem State.kept_demands (s : State) (d : Table PendingDemand) :
    State.kept { s with fi := { s.fi with demands := d } } = s.kept := rfl

/-- An operation that keeps it does so repeated. -/
theorem forEach_kept {α : Type} (ks : List α) (f : α → State → State) (s : State)
    (h : ∀ k s, (f k s).kept = s.kept) : (forEach ks f s).kept = s.kept := by
  induction ks generalizing s with
  | nil => rfl
  | cons k r ih => exact (ih (f k s)).trans (h k s)

@[simp] theorem State.kept_modSection (s : State) (e : Nat) (f : SectionBody → SectionBody) :
    (State.modSection s e f).kept = s.kept := by
  unfold State.modSection
  repeat' (first | (simp [forEach_kept, apply_ite State.kept]; done) | split | dsimp only)

@[simp] theorem State.kept_modPoints (s : State) (e : Nat) (f : PointsBody → PointsBody) :
    (State.modPoints s e f).kept = s.kept := by
  unfold State.modPoints
  repeat' (first | (simp [forEach_kept, apply_ite State.kept]; done) | split | dsimp only)

@[simp] theorem State.kept_modSignal (s : State) (e : Nat) (f : SignalBody → SignalBody) :
    (State.modSignal s e f).kept = s.kept := by
  unfold State.modSignal
  repeat' (first | (simp [forEach_kept, apply_ite State.kept]; done) | split | dsimp only)

@[simp] theorem State.kept_modBoundary (s : State) (e : Nat) (f : BoundaryBody → BoundaryBody) :
    (State.modBoundary s e f).kept = s.kept := by
  unfold State.modBoundary
  repeat' (first | (simp [forEach_kept, apply_ite State.kept]; done) | split | dsimp only)

@[simp] theorem State.kept_triggerIf (b : Bool) (s : State) :
    (State.triggerIf b s).kept = s.kept := by
  unfold State.triggerIf
  repeat' (first | (simp [forEach_kept, apply_ite State.kept]; done) | split | dsimp only)

@[simp] theorem State.kept_hand (s : State) (l : Nat) (p : Payload) :
    (State.hand s l p).kept = s.kept := by
  unfold State.hand
  repeat' (first | (simp [forEach_kept, apply_ite State.kept]; done) | split | dsimp only)

@[simp] theorem State.kept_latchIf (b : Bool) (n : Notice) (s : State) :
    (State.latchIf b n s).kept = s.kept := by
  unfold State.latchIf
  repeat' (first | (simp [forEach_kept, apply_ite State.kept]; done) | split | dsimp only)

@[simp] theorem State.kept_latchFault (s : State) (e : Nat) (flag : FaultFlag) :
    (State.latchFault s e flag).kept = s.kept := by
  unfold State.latchFault
  repeat' (first | (simp [forEach_kept, apply_ite State.kept]; done) | split | dsimp only)

@[simp] theorem State.kept_joinEntry (s : State) (e : Nat) (p : PendingDemand) :
    (State.joinEntry s e p).kept = s.kept := by
  unfold State.joinEntry
  repeat' (first | (simp [forEach_kept, apply_ite State.kept]; done) | split | dsimp only)

@[simp] theorem State.kept_joinDemand (s : State) (e : Nat) :
    (State.joinDemand s e).kept = s.kept := by
  unfold State.joinDemand
  repeat' (first | (simp [forEach_kept, apply_ite State.kept]; done) | split | dsimp only)

@[simp] theorem State.kept_movingCleared (s : State) (e : Nat) :
    (State.movingCleared s e).kept = s.kept := by
  unfold State.movingCleared
  repeat' (first | (simp [forEach_kept, apply_ite State.kept]; done) | split | dsimp only)

@[simp] theorem State.kept_writePointsDemand (s : State) (e : Nat) (p : Position) :
    (State.writePointsDemand s e p).kept = s.kept := by
  unfold State.writePointsDemand
  repeat' (first | (simp [forEach_kept, apply_ite State.kept]; done) | split | dsimp only)

@[simp] theorem State.kept_writeSignalDemand (s : State) (e : Nat) (a : Aspect) :
    (State.writeSignalDemand s e a).kept = s.kept := by
  unfold State.writeSignalDemand
  repeat' (first | (simp [forEach_kept, apply_ite State.kept]; done) | split | dsimp only)

@[simp] theorem State.kept_stopAllSignals (s : State) :
    (State.stopAllSignals s).kept = s.kept := by
  unfold State.stopAllSignals
  repeat' (first | (simp [forEach_kept, apply_ite State.kept]; done) | split | dsimp only)

@[simp] theorem State.kept_recordClaim (s : State) (h : Holder) (e : Nat) (d : Demand) :
    (State.recordClaim s h e d).kept = s.kept := by
  unfold State.recordClaim
  repeat' (first | (simp [forEach_kept, apply_ite State.kept]; done) | split | dsimp only)

@[simp] theorem State.kept_demandForClaim (s : State) (e : Nat) (d : Demand) :
    (State.demandForClaim s e d).kept = s.kept := by
  unfold State.demandForClaim
  repeat' (first | (simp [forEach_kept, apply_ite State.kept]; done) | split | dsimp only)

@[simp] theorem State.kept_makeClaim (s : State) (h : Holder) (e : Nat) (d : Demand) :
    (State.makeClaim s h e d).kept = s.kept := by
  unfold State.makeClaim
  repeat' (first | (simp [forEach_kept, apply_ite State.kept]; done) | split | dsimp only)

@[simp] theorem State.kept_setHolders (s : State) (n : Nat) (c : Claim) (hs : List Holder) :
    (State.setHolders s n c hs).kept = s.kept := by
  unfold State.setHolders
  repeat' (first | (simp [forEach_kept, apply_ite State.kept]; done) | split | dsimp only)

@[simp] theorem State.kept_dropClaimUse (s : State) (slot e : Nat) :
    (State.dropClaimUse s slot e).kept = s.kept := by
  unfold State.dropClaimUse
  repeat' (first | (simp [forEach_kept, apply_ite State.kept]; done) | split | dsimp only)

@[simp] theorem State.kept_joinItem (s : State) (l k : Nat) (ref : Nat × Nat) :
    (State.joinItem s l k ref).1.kept = s.kept := by
  unfold State.joinItem
  dsimp only
  split
  · simp
  · exact (State.kept_hand _ _ _).trans rfl
  · simp

@[simp] theorem State.kept_flankFree (s : State) (l k : Nat) (ask : Byte) (sweep : Bool) :
    (State.flankFree s l k ask sweep).kept = s.kept := by
  unfold State.flankFree
  repeat' (first | (simp [forEach_kept, apply_ite State.kept]; done) | split | dsimp only)

@[simp] theorem State.kept_settleItem (s : State) (l k : Nat) :
    (State.settleItem s l k).kept = s.kept := by
  unfold State.settleItem
  repeat' (first | (simp [forEach_kept, apply_ite State.kept]; done) | split | dsimp only)

@[simp] theorem State.kept_leaveItem (s : State) (l k : Nat) (ref : Nat × Nat) :
    (State.leaveItem s l k ref).kept = s.kept := by
  unfold State.leaveItem
  repeat' (first | (simp [forEach_kept, apply_ite State.kept]; done) | split | dsimp only)

@[simp] theorem State.kept_modRef (s : State) (slot i : Nat) (f : FlankRef → FlankRef) :
    (State.modRef s slot i f).kept = s.kept := by
  unfold State.modRef
  repeat' (first | (simp [forEach_kept, apply_ite State.kept]; done) | split | dsimp only)

@[simp] theorem State.kept_yieldRef (s : State) (slot i : Nat) (r : FlankRef) :
    (State.yieldRef s slot i r).kept = s.kept := by
  unfold State.yieldRef
  repeat' (first | (simp [forEach_kept, apply_ite State.kept]; done) | split | dsimp only)

@[simp] theorem State.kept_dropRef (slot i : Nat) (s : State) :
    (State.dropRef slot i s).kept = s.kept := by
  unfold State.dropRef
  repeat' (first | (simp [forEach_kept, apply_ite State.kept]; done) | split | dsimp only)

@[simp] theorem State.kept_adopt (s : State) (slot i number : Nat) (a : Alternative) :
    (State.adopt s slot i number a).kept = s.kept := by
  unfold State.adopt
  repeat' (first | (simp [forEach_kept, apply_ite State.kept]; done) | split | dsimp only)

@[simp] theorem State.kept_handChangedItems (before after : State) :
    (State.handChangedItems before after).kept = after.kept := by
  unfold State.handChangedItems
  repeat' (first | (simp [forEach_kept, apply_ite State.kept]; done) | split | dsimp only)

@[simp] theorem State.kept_setToken (s : State) (l : Nat) (t : Token) :
    (State.setToken s l t).kept = s.kept := by
  unfold State.setToken
  repeat' (first | (simp [forEach_kept, apply_ite State.kept]; done) | split | dsimp only)

@[simp] theorem State.kept_endAsk (s : State) (l : Nat) :
    (State.endAsk s l).kept = s.kept := by
  unfold State.endAsk
  repeat' (first | (simp [forEach_kept, apply_ite State.kept]; done) | split | dsimp only)

@[simp] theorem State.kept_makeOffer (s : State) (l slot : Nat) :
    (State.makeOffer s l slot).kept = s.kept := by
  unfold State.makeOffer
  repeat' (first | (simp [forEach_kept, apply_ite State.kept]; done) | split | dsimp only)

@[simp] theorem State.kept_declinePending (s : State) (l : Nat) (reason : Reason) :
    (State.declinePending s l reason).kept = s.kept := by
  unfold State.declinePending
  repeat' (first | (simp [forEach_kept, apply_ite State.kept]; done) | split | dsimp only)

@[simp] theorem State.kept_startHandover (s : State) (l slot priority : Nat) :
    (State.startHandover s l slot priority).1.kept = s.kept := by
  unfold State.startHandover
  repeat' (first | (simp [forEach_kept, apply_ite State.kept]; done) | split | dsimp only)

@[simp] theorem State.kept_endOffer (s : State) (l : Nat) (o : OutOffer) :
    (State.endOffer s l o).kept = s.kept := by
  unfold State.endOffer
  repeat' (first | (simp [forEach_kept, apply_ite State.kept]; done) | split | dsimp only)

@[simp] theorem State.kept_routeGone (s : State) (l slot : Nat) :
    (State.routeGone s l slot).kept = s.kept := by
  unfold State.routeGone
  repeat' (first | (simp [forEach_kept, apply_ite State.kept]; done) | split | dsimp only)

@[simp] theorem State.kept_passage (s : State) (l : Nat) (number : Byte) :
    (State.passage s l number).kept = s.kept := by
  unfold State.passage
  repeat' (first | (simp [forEach_kept, apply_ite State.kept]; done) | split | dsimp only)

@[simp] theorem State.kept_releaseLock (s : State) (e : Nat) (h : Lock) :
    (State.releaseLock s e h).kept = s.kept := by
  unfold State.releaseLock
  repeat' (first | (simp [forEach_kept, apply_ite State.kept]; done) | split | dsimp only)

@[simp] theorem State.kept_endReservation (s : State) (l : Nat) :
    (State.endReservation s l).kept = s.kept := by
  unfold State.endReservation
  repeat' (first | (simp [forEach_kept, apply_ite State.kept]; done) | split | dsimp only)

@[simp] theorem State.kept_writeOutcome (s : State) (route : Nat) (o : RouteOutcome) :
    (State.writeOutcome s route o).kept = s.kept := by
  simp only [State.writeOutcome, State.kept_latch]
  simp [State.kept]

@[simp] theorem State.kept_releaseSlotLocks (s : State) (slot : Nat) (es : List Nat) :
    (State.releaseSlotLocks s slot es).kept = s.kept := by
  unfold State.releaseSlotLocks
  repeat' (first | (simp [forEach_kept, apply_ite State.kept]; done) | split | dsimp only)

@[simp] theorem State.kept_dropRefs (s : State) (slot : Nat) (p : Nat → Bool) :
    (State.dropRefs s slot p).kept = s.kept := by
  unfold State.dropRefs
  repeat' (first | (simp [forEach_kept, apply_ite State.kept]; done) | split | dsimp only)

@[simp] theorem State.kept_giveBack (s : State) (slot : Nat) (r : RouteRecord) :
    (State.giveBack s slot r).kept = s.kept := by
  have h (t : State) (u : Table RouteRecord) : State.kept { t with rsv := u } = t.kept := rfl
  unfold State.giveBack
  dsimp only
  rw [h]
  split <;> simp

@[simp] theorem State.kept_endRecord (s : State) (slot : Nat) (o : RouteOutcome) :
    (State.endRecord s slot o).kept = s.kept := by
  unfold State.endRecord
  repeat' (first | (simp [forEach_kept, apply_ite State.kept]; done) | split | dsimp only)

@[simp] theorem State.kept_failRecord (s : State) (slot : Nat) (reason : Reason) (e : Nat) :
    (State.failRecord s slot reason e).kept = s.kept := by
  unfold State.failRecord
  repeat' (first | (simp [forEach_kept, apply_ite State.kept]; done) | split | dsimp only)

@[simp] theorem State.kept_failHandover (s : State) (slot : Nat) (reason : Reason) :
    (State.failHandover s slot reason).kept = s.kept := by
  unfold State.failHandover
  repeat' (first | (simp [forEach_kept, apply_ite State.kept]; done) | split | dsimp only)

@[simp] theorem State.kept_clearRecord (s : State) (slot : Nat) (r : RouteRecord) :
    (State.clearRecord s slot r).kept = s.kept := by
  unfold State.clearRecord
  repeat' (first | (simp [forEach_kept, apply_ite State.kept]; done) | split | dsimp only)

@[simp] theorem State.kept_tryClear (s : State) (slot : Nat) :
    (State.tryClear s slot).kept = s.kept := by
  unfold State.tryClear
  repeat' (first | (simp [forEach_kept, apply_ite State.kept]; done) | split | dsimp only)

@[simp] theorem State.kept_releaseOverlap (s : State) (slot : Nat) (r : RouteRecord) :
    (State.releaseOverlap s slot r).kept = s.kept := by
  unfold State.releaseOverlap
  repeat' (first | (simp [forEach_kept, apply_ite State.kept]; done) | split | dsimp only)

@[simp] theorem State.kept_afterRelease (s : State) (slot : Nat) :
    (State.afterRelease s slot).kept = s.kept := by
  unfold State.afterRelease
  repeat' (first | (simp [forEach_kept, apply_ite State.kept]; done) | split | dsimp only)

@[simp] theorem State.kept_startOverlap (s : State) (slot : Nat) :
    (State.startOverlap s slot).kept = s.kept := by
  unfold State.startOverlap
  repeat' (first | (simp [forEach_kept, apply_ite State.kept]; done) | split | dsimp only)

@[simp] theorem State.kept_enterInUse (s : State) (slot : Nat) :
    (State.enterInUse s slot).kept = s.kept := by
  unfold State.enterInUse
  repeat' (first | (simp [forEach_kept, apply_ite State.kept]; done) | split | dsimp only)

@[simp] theorem State.kept_enterIfOccupied (s : State) (slot : Nat) :
    (State.enterIfOccupied s slot).kept = s.kept := by
  unfold State.enterIfOccupied
  repeat' (first | (simp [forEach_kept, apply_ite State.kept]; done) | split | dsimp only)

@[simp] theorem State.kept_replace (s : State) (slot : Nat) (reason : Reason) (e : Nat) :
    (State.replace s slot reason e).kept = s.kept := by
  unfold State.replace
  repeat' (first | (simp [forEach_kept, apply_ite State.kept]; done) | split | dsimp only)

@[simp] theorem State.kept_testSetting (s : State) (slot : Nat) :
    (State.testSetting s slot).kept = s.kept := by
  unfold State.testSetting
  repeat' (first | (simp [forEach_kept, apply_ite State.kept]; done) | split | dsimp only)

@[simp] theorem State.kept_review (slot : Nat) (s : State) :
    (State.review slot s).kept = s.kept := by
  unfold State.review
  repeat' (first | (simp [forEach_kept, apply_ite State.kept]; done) | split | dsimp only)

@[simp] theorem State.kept_reviewAll (s : State) :
    (State.reviewAll s).kept = s.kept := by
  unfold State.reviewAll
  repeat' (first | (simp [forEach_kept, apply_ite State.kept]; done) | split | dsimp only)

@[simp] theorem State.kept_releaseStep (s : State) (slot : Nat) (r : RouteRecord) :
    (State.releaseStep s slot r).kept = s.kept := by
  unfold State.releaseStep
  repeat' (first | (simp [forEach_kept, apply_ite State.kept]; done) | split | dsimp only)

@[simp] theorem State.kept_discrepancy (s : State) (slot front : Nat) :
    (State.discrepancy s slot front).kept = s.kept := by
  unfold State.discrepancy
  repeat' (first | (simp [forEach_kept, apply_ite State.kept]; done) | split | dsimp only)

@[simp] theorem State.kept_passageEvent (s : State) (slot e : Nat) (new : Occupancy) (r : RouteRecord) :
    (State.passageEvent s slot e new r).kept = s.kept := by
  unfold State.passageEvent
  repeat' (first | (simp [forEach_kept, apply_ite State.kept]; done) | split | dsimp only)

@[simp] theorem State.kept_sectionEvent (e : Nat) (new : Occupancy) (slot : Nat) (s : State) :
    (State.sectionEvent e new slot s).kept = s.kept := by
  unfold State.sectionEvent
  repeat' (first | (simp [forEach_kept, apply_ite State.kept]; done) | split | dsimp only)

@[simp] theorem State.kept_holdPending (s : State) (e : Nat) :
    (State.holdPending s e).kept = s.kept := by
  unfold State.holdPending
  repeat' (first | (simp [forEach_kept, apply_ite State.kept]; done) | split | dsimp only)

@[simp] theorem State.kept_answerOwed (s : State) (n : Nat) (g : GrantState) (answer : Nat → Byte → Payload) :
    (State.answerOwed s n g answer).kept = s.kept := by
  unfold State.answerOwed
  split
  · rw [forEach_kept _ _ _ (by intro k s; split <;> simp)]
    simp
  · rfl

@[simp] theorem State.kept_reevaluate (s : State) (e : Nat) :
    (State.reevaluate s e).kept = s.kept := by
  unfold State.reevaluate
  repeat' (first | (simp [forEach_kept, apply_ite State.kept]; done) | split | dsimp only)

@[simp] theorem State.kept_resolveRef (x : Nat × Nat) (s : State) :
    (State.resolveRef x s).kept = s.kept := by
  unfold State.resolveRef
  repeat' (first | (simp [forEach_kept, apply_ite State.kept]; done) | split | dsimp only)

@[simp] theorem State.kept_claimThrowFailed (s : State) (e : Nat) :
    (State.claimThrowFailed s e).kept = s.kept := by
  unfold State.claimThrowFailed
  repeat' (first | (simp [forEach_kept, apply_ite State.kept]; done) | split | dsimp only)

@[simp] theorem State.kept_abandonItem (l : Nat) (reason : Byte) (st : ItemState) (free : Bool) (k : Nat) (s : State) :
    (State.abandonItem l reason st free k s).kept = s.kept := by
  unfold State.abandonItem
  repeat' (first | (simp [forEach_kept, apply_ite State.kept]; done) | split | dsimp only)

@[simp] theorem State.kept_abandonAsked (s : State) (l : Nat) (ks : List Nat) (reason : Byte) (st : ItemState) (free : Bool) :
    (State.abandonAsked s l ks reason st free).kept = s.kept := by
  unfold State.abandonAsked
  repeat' (first | (simp [forEach_kept, apply_ite State.kept]; done) | split | dsimp only)

@[simp] theorem State.kept_grantReceived (s : State) (l k : Nat) (ask : Byte) (satisfied : Bool) :
    (State.grantReceived s l k ask satisfied).kept = s.kept := by
  unfold State.grantReceived
  repeat' (first | (simp [forEach_kept, apply_ite State.kept]; done) | split | dsimp only)

@[simp] theorem State.kept_denyReceived (s : State) (l k : Nat) (ask reason : Byte) :
    (State.denyReceived s l k ask reason).kept = s.kept := by
  unfold State.denyReceived
  repeat' (first | (simp [forEach_kept, apply_ite State.kept]; done) | split | dsimp only)

@[simp] theorem State.kept_askTimeout (s : State) (l k : Nat) :
    (State.askTimeout s l k).kept = s.kept := by
  unfold State.askTimeout
  repeat' (first | (simp [forEach_kept, apply_ite State.kept]; done) | split | dsimp only)

@[simp] theorem State.kept_deny (s : State) (l : Nat) (item ask : Byte) (reason : Reason) :
    (State.deny s l item ask reason).kept = s.kept := by
  unfold State.deny
  repeat' (first | (simp [forEach_kept, apply_ite State.kept]; done) | split | dsimp only)

@[simp] theorem State.kept_modHolder (s : State) (n l k : Nat) (ask : Byte) (g : GrantState) :
    (State.modHolder s n l k ask g).kept = s.kept := by
  unfold State.modHolder
  repeat' (first | (simp [forEach_kept, apply_ite State.kept]; done) | split | dsimp only)

@[simp] theorem State.kept_repeatAsk (s : State) (l : Nat) (item ask : Byte) (n : Nat) (c : Claim) (g : GrantState) :
    (State.repeatAsk s l item ask n c g).kept = s.kept := by
  unfold State.repeatAsk
  repeat' (first | (simp [forEach_kept, apply_ite State.kept]; done) | split | dsimp only)

@[simp] theorem State.kept_flankAsked (s : State) (l : Nat) (item ask : Byte) :
    (State.flankAsked s l item ask).kept = s.kept := by
  unfold State.flankAsked
  repeat' (first | (simp [forEach_kept, apply_ite State.kept]; done) | split | dsimp only)

@[simp] theorem State.kept_removeHolders (p : Holder → Bool) (n : Nat) (s : State) :
    (State.removeHolders p n s).kept = s.kept := by
  unfold State.removeHolders
  repeat' (first | (simp [forEach_kept, apply_ite State.kept]; done) | split | dsimp only)

@[simp] theorem State.kept_flankFreed (s : State) (l : Nat) (item ask : Byte) (sweep : Bool) :
    (State.flankFreed s l item ask sweep).kept = s.kept := by
  unfold State.flankFreed
  repeat' (first | (simp [forEach_kept, apply_ite State.kept]; done) | split | dsimp only)

@[simp] theorem State.kept_freeNeighbour (s : State) (l : Nat) :
    (State.freeNeighbour s l).kept = s.kept := by
  unfold State.freeNeighbour
  repeat' (first | (simp [forEach_kept, apply_ite State.kept]; done) | split | dsimp only)

@[simp] theorem State.kept_sweepItem (s : State) (l k : Nat) (v : ItemImage) :
    (State.sweepItem s l k v).kept = s.kept := by
  unfold State.sweepItem
  repeat' (first | (simp [forEach_kept, apply_ite State.kept]; done) | split | dsimp only)

@[simp] theorem State.kept_flankLinkDown (s : State) (l : Nat) :
    (State.flankLinkDown s l).kept = s.kept := by
  unfold State.flankLinkDown
  repeat' (first | (simp [forEach_kept, apply_ite State.kept]; done) | split | dsimp only)

@[simp] theorem State.kept_flankLinkUp (s : State) (l : Nat) (restarted : Bool) :
    (State.flankLinkUp s l restarted).kept = s.kept := by
  unfold State.flankLinkUp
  refine forEach_kept _ _ _ fun k s => ?_
  repeat' (first | (simp [apply_ite State.kept]; done) | split | dsimp only)

@[simp] theorem State.kept_flankLineWithdrawn (s : State) (l : Nat) :
    (State.flankLineWithdrawn s l).kept = s.kept := by
  unfold State.flankLineWithdrawn
  repeat' (first | (simp [forEach_kept, apply_ite State.kept]; done) | split | dsimp only)

@[simp] theorem State.kept_handChangedBorders (before after : State) (e : Nat) :
    (State.handChangedBorders before after e).kept = after.kept := by
  unfold State.handChangedBorders
  repeat' (first | (simp [forEach_kept, apply_ite State.kept]; done) | split | dsimp only)

@[simp] theorem State.kept_borderOccupied (e : Nat) (l : Nat) (s : State) :
    (State.borderOccupied e l s).kept = s.kept := by
  unfold State.borderOccupied
  repeat' (first | (simp [forEach_kept, apply_ite State.kept]; done) | split | dsimp only)

@[simp] theorem State.kept_writeOccupancy (s : State) (e : Nat) (new : Occupancy) :
    (State.writeOccupancy s e new).kept = s.kept := by
  unfold State.writeOccupancy
  repeat' (first | (simp [forEach_kept, apply_ite State.kept]; done) | split | dsimp only)

@[simp] theorem State.kept_detectionEvent (s : State) (e : Nat) (old : Detection) :
    (State.detectionEvent s e old).kept = s.kept := by
  unfold State.detectionEvent
  repeat' (first | (simp [forEach_kept, apply_ite State.kept]; done) | split | dsimp only)

@[simp] theorem State.kept_offerCapture (s : State) (e elapsed : Nat) :
    (State.offerCapture s e elapsed).kept = s.kept := by
  unfold State.offerCapture
  repeat' (first | (simp [forEach_kept, apply_ite State.kept]; done) | split | dsimp only)

@[simp] theorem State.kept_judgeDetection (s : State) (e : Nat) (b : PointsBody) (new : Detection) :
    (State.judgeDetection s e b new).kept = s.kept := by
  unfold State.judgeDetection
  repeat' (first | (simp [forEach_kept, apply_ite State.kept]; done) | split | dsimp only)

@[simp] theorem State.kept_writeDetection (s : State) (e : Nat) (new : Detection) :
    (State.writeDetection s e new).kept = s.kept := by
  unfold State.writeDetection
  repeat' (first | (simp [forEach_kept, apply_ite State.kept]; done) | split | dsimp only)

@[simp] theorem State.kept_proceedShown (e slot : Nat) (s : State) :
    (State.proceedShown e slot s).kept = s.kept := by
  unfold State.proceedShown
  repeat' (first | (simp [forEach_kept, apply_ite State.kept]; done) | split | dsimp only)

@[simp] theorem State.kept_proofLost (e slot : Nat) (s : State) :
    (State.proofLost e slot s).kept = s.kept := by
  unfold State.proofLost
  repeat' (first | (simp [forEach_kept, apply_ite State.kept]; done) | split | dsimp only)

@[simp] theorem State.kept_proofMade (e slot : Nat) (s : State) :
    (State.proofMade e slot s).kept = s.kept := by
  unfold State.proofMade
  repeat' (first | (simp [forEach_kept, apply_ite State.kept]; done) | split | dsimp only)

@[simp] theorem State.kept_notProvenEvent (e slot : Nat) (s : State) :
    (State.notProvenEvent e slot s).kept = s.kept := by
  unfold State.notProvenEvent
  repeat' (first | (simp [forEach_kept, apply_ite State.kept]; done) | split | dsimp only)

@[simp] theorem State.kept_shownEvent (s : State) (e : Nat) (new : Shown) (proofLost : Bool) :
    (State.shownEvent s e new proofLost).kept = s.kept := by
  unfold State.shownEvent
  repeat' (first | (simp [forEach_kept, apply_ite State.kept]; done) | split | dsimp only)

@[simp] theorem State.kept_writeShown (s : State) (e : Nat) (new : Shown) :
    (State.writeShown s e new).kept = s.kept := by
  unfold State.writeShown
  repeat' (first | (simp [forEach_kept, apply_ite State.kept]; done) | split | dsimp only)

@[simp] theorem State.kept_markWithdrawn (e : Nat) (s : State) :
    (State.markWithdrawn e s).kept = s.kept := by
  unfold State.markWithdrawn
  repeat' (first | (simp [forEach_kept, apply_ite State.kept]; done) | split | dsimp only)

@[simp] theorem State.kept_withdrawalEvents (before : State) (e : Nat) (s : State) :
    (State.withdrawalEvents before e s).kept = s.kept := by
  unfold State.withdrawalEvents
  repeat' (first | (simp [forEach_kept, apply_ite State.kept]; done) | split | dsimp only)

@[simp] theorem State.kept_withdrawElements (s : State) (es : List Nat) :
    (State.withdrawElements s es).kept = s.kept := by
  unfold State.withdrawElements
  repeat' (first | (simp [forEach_kept, apply_ite State.kept]; done) | split | dsimp only)

@[simp] theorem State.kept_blankImages (s : State) (l : Nat) :
    (State.blankImages s l).kept = s.kept := by
  unfold State.blankImages
  repeat' (first | (simp [forEach_kept, apply_ite State.kept]; done) | split | dsimp only)

@[simp] theorem State.kept_markLineWithdrawn (l : Nat) (s : State) :
    (State.markLineWithdrawn l s).kept = s.kept := by
  unfold State.markLineWithdrawn
  repeat' (first | (simp [forEach_kept, apply_ite State.kept]; done) | split | dsimp only)

@[simp] theorem State.kept_lineWithdrawalEvents (l : Nat) (s : State) :
    (State.lineWithdrawalEvents l s).kept = s.kept := by
  unfold State.lineWithdrawalEvents
  repeat' (first | (simp [forEach_kept, apply_ite State.kept]; done) | split | dsimp only)

@[simp] theorem State.kept_withdrawLines (s : State) (ls : List Nat) :
    (State.withdrawLines s ls).kept = s.kept := by
  unfold State.withdrawLines
  repeat' (first | (simp [forEach_kept, apply_ite State.kept]; done) | split | dsimp only)

@[simp] theorem State.kept_lineDown (l : Nat) (s : State) :
    (State.lineDown l s).kept = s.kept := by
  unfold State.lineDown
  repeat' (first | (simp; done) | split | dsimp only)
  all_goals (rename_i o _ _; cases o.slot <;> simp)

@[simp] theorem State.kept_lapseHandover (s : State) (o : OutOffer) :
    (State.lapseHandover s o).kept = s.kept := by
  unfold State.lapseHandover
  repeat' (first | (simp [forEach_kept, apply_ite State.kept]; done) | split | dsimp only)

@[simp] theorem State.kept_lineUpEvent (restarted : Bool) (l : Nat) (s : State) :
    (State.lineUpEvent restarted l s).kept = s.kept := by
  unfold State.lineUpEvent
  repeat' (first | (simp [forEach_kept, apply_ite State.kept]; done) | split | dsimp only)

@[simp] theorem State.kept_writeLock (s : State) (e : Nat) (h : Lock) :
    (State.writeLock s e h).kept = s.kept := by
  unfold State.writeLock
  repeat' (first | (simp [forEach_kept, apply_ite State.kept]; done) | split | dsimp only)

@[simp] theorem State.kept_demandPoints (s : State) (d : Definition) :
    (State.demandPoints s d).kept = s.kept := by
  unfold State.demandPoints
  refine forEach_kept _ _ _ fun x s => ?_
  repeat' (first | (simp; done) | split)

@[simp] theorem State.kept_take (s : State) (route : Nat) (hold : Bool) (slot : Nat) (d : Definition) (xs : List (Nat × Alternative)) :
    (State.take s route hold slot d xs).kept = s.kept := by
  unfold State.take
  repeat' (first | (simp [forEach_kept, apply_ite State.kept]; done) | split | dsimp only)

@[simp] theorem State.kept_joinQueue (s : State) (q : QueueEntry) :
    (State.joinQueue s q).kept = s.kept := by
  unfold State.joinQueue
  repeat' (first | (simp [forEach_kept, apply_ite State.kept]; done) | split | dsimp only)

@[simp] theorem State.kept_leaveQueue (s : State) (route : Nat) :
    (State.leaveQueue s route).kept = s.kept := by
  unfold State.leaveQueue
  repeat' (first | (simp [forEach_kept, apply_ite State.kept]; done) | split | dsimp only)

@[simp] theorem State.kept_examineEntry (route : Nat) (s : State) :
    (State.examineEntry route s).kept = s.kept := by
  unfold State.examineEntry
  repeat' (first | (simp [forEach_kept, apply_ite State.kept]; done) | split | dsimp only)

@[simp] theorem State.kept_pass (s : State) :
    (State.pass s).kept = s.kept := by
  unfold State.pass
  repeat' (first | (simp [forEach_kept, apply_ite State.kept]; done) | split | dsimp only)

@[simp] theorem State.kept_settle (s : State) :
    (State.settle s).kept = s.kept := by
  unfold State.settle
  repeat' (first | (simp [forEach_kept, apply_ite State.kept]; done) | split | dsimp only)

@[simp] theorem State.kept_answerDirection (s : State) (l : Nat) :
    (State.answerDirection s l).kept = s.kept := by
  unfold State.answerDirection
  repeat' (first | (simp [forEach_kept, apply_ite State.kept]; done) | split | dsimp only)

@[simp] theorem State.kept_dirAsked (word : Word) (l : Nat) (s : State) :
    (State.dirAsked word l s).kept = s.kept := by
  unfold State.dirAsked
  repeat' (first | (simp [forEach_kept, apply_ite State.kept]; done) | split | dsimp only)

@[simp] theorem State.kept_dirYielded (l : Nat) (s : State) :
    (State.dirYielded l s).kept = s.kept := by
  unfold State.dirYielded
  repeat' (first | (simp [forEach_kept, apply_ite State.kept]; done) | split | dsimp only)

@[simp] theorem State.kept_askFailed (l : Nat) (s : State) :
    (State.askFailed l s).kept = s.kept := by
  unfold State.askFailed
  repeat' (first | (simp [forEach_kept, apply_ite State.kept]; done) | split | dsimp only)

@[simp] theorem State.kept_dirRefused (reason : Byte) (l : Nat) (s : State) :
    (State.dirRefused reason l s).kept = s.kept := by
  unfold State.dirRefused
  repeat' (first | (simp [forEach_kept, apply_ite State.kept]; done) | split | dsimp only)

@[simp] theorem State.kept_deliverAcceptance (s : State) (slot : Nat) :
    (State.deliverAcceptance s slot).kept = s.kept := by
  unfold State.deliverAcceptance
  repeat' (first | (simp [forEach_kept, apply_ite State.kept]; done) | split | dsimp only)

@[simp] theorem State.kept_offerAccepted (n : Byte) (l : Nat) (s : State) :
    (State.offerAccepted n l s).kept = s.kept := by
  unfold State.offerAccepted
  repeat' (first | (simp [forEach_kept, apply_ite State.kept]; done) | split | dsimp only)

@[simp] theorem State.kept_offerFailed (s : State) (l : Nat) (o : OutOffer) (reason : Reason) :
    (State.offerFailed s l o reason).kept = s.kept := by
  unfold State.offerFailed
  repeat' (first | (simp [forEach_kept, apply_ite State.kept]; done) | split | dsimp only)

@[simp] theorem State.kept_offerDeclined (n reason : Byte) (l : Nat) (s : State) :
    (State.offerDeclined n reason l s).kept = s.kept := by
  unfold State.offerDeclined
  repeat' (first | (simp [forEach_kept, apply_ite State.kept]; done) | split | dsimp only)

@[simp] theorem State.kept_offerTimeout (s : State) (l : Nat) (o : OutOffer) :
    (State.offerTimeout s l o).kept = s.kept := by
  unfold State.offerTimeout
  repeat' (first | (simp [forEach_kept, apply_ite State.kept]; done) | split | dsimp only)

@[simp] theorem State.kept_acceptOffer (s : State) (l : Nat) (n : Byte) :
    (State.acceptOffer s l n).kept = s.kept := by
  unfold State.acceptOffer
  repeat' (first | (simp [forEach_kept, apply_ite State.kept]; done) | split | dsimp only)

@[simp] theorem State.kept_applyPolicy (s : State) (l : Nat) (r : Line) (n : Byte) :
    (State.applyPolicy s l r n).kept = s.kept := by
  unfold State.applyPolicy
  repeat' (first | (simp [forEach_kept, apply_ite State.kept]; done) | split | dsimp only)

@[simp] theorem State.kept_offerReceived (n : Byte) (l : Nat) (s : State) :
    (State.offerReceived n l s).kept = s.kept := by
  unfold State.offerReceived
  repeat' (first | (simp [forEach_kept, apply_ite State.kept]; done) | split | dsimp only)

@[simp] theorem State.kept_offerWithdrawn (n : Byte) (l : Nat) (s : State) :
    (State.offerWithdrawn n l s).kept = s.kept := by
  unfold State.offerWithdrawn
  repeat' (first | (simp [forEach_kept, apply_ite State.kept]; done) | split | dsimp only)

@[simp] theorem State.kept_passedEvent (n : Byte) (l : Nat) (s : State) :
    (State.passedEvent n l s).kept = s.kept := by
  unfold State.passedEvent
  repeat' (first | (simp [forEach_kept, apply_ite State.kept]; done) | split | dsimp only)

@[simp] theorem State.kept_itemReceived (l e : Nat) (x : Byte × Nat) (s : State) :
    (State.itemReceived l e x s).kept = s.kept := by
  unfold State.itemReceived
  repeat' (first | (simp [forEach_kept, apply_ite State.kept]; done) | split | dsimp only)

@[simp] theorem State.kept_viewReceived (s : State) (l : Nat) (view : TokenView) :
    (State.viewReceived s l view).kept = s.kept := by
  unfold State.viewReceived
  repeat' (first | (simp [forEach_kept, apply_ite State.kept]; done) | split | dsimp only)

@[simp] theorem State.kept_imageReceived (occupancy token : Byte) (items : List Byte) (l : Nat) (s : State) :
    (State.imageReceived occupancy token items l s).kept = s.kept := by
  unfold State.imageReceived
  repeat' (first | (simp [forEach_kept, apply_ite State.kept]; done) | split | dsimp only)

@[simp] theorem State.kept_lineResetDone (s : State) (l : Nat) :
    (State.lineResetDone s l).kept = s.kept := by
  unfold State.lineResetDone
  repeat' (first | (simp [forEach_kept, apply_ite State.kept]; done) | split | dsimp only)

@[simp] theorem State.kept_dropLink (s : State) (n : Nat) (reason : Reason) :
    (State.dropLink s n reason).kept = s.kept := by
  unfold State.dropLink
  repeat' (first | (simp [forEach_kept, apply_ite State.kept]; done) | split | dsimp only)

@[simp] theorem State.kept_linkError (s : State) (n : Nat) (kind : Reason) :
    (State.linkError s n kind).kept = s.kept := by
  unfold State.linkError
  repeat' (first | (simp [forEach_kept, apply_ite State.kept]; done) | split | dsimp only)

@[simp] theorem State.kept_enterUp (s : State) (n : Nat) :
    (State.enterUp s n).kept = s.kept := by
  unfold State.enterUp
  repeat' (first | (simp [forEach_kept, apply_ite State.kept]; done) | split | dsimp only)

@[simp] theorem State.kept_judgeInUp (s : State) (n : Nat) (k : LinkSlot) (sequence index : Byte) (deliver : Nat → State → State) (h : ∀ l s, (deliver l s).kept = s.kept) :
    (State.judgeInUp s n k sequence index deliver).kept = s.kept := by
  unfold State.judgeInUp
  repeat' (first | (simp [forEach_kept, apply_ite State.kept, h]; done) | split | dsimp only)

@[simp] theorem State.kept_receive (s : State) (port : Nat) (sequence index : Byte) (deliver : Nat → State → State) (h : ∀ l s, (deliver l s).kept = s.kept) :
    (State.receive s port sequence index deliver).kept = s.kept := by
  unfold State.receive
  repeat' (first | (simp [forEach_kept, apply_ite State.kept, h]; done) | split | dsimp only)

@[simp] theorem State.kept_identMatched (s : State) (n : Nat) (restart answer : Bool) :
    (State.identMatched s n restart answer).kept = s.kept := by
  unfold State.identMatched
  repeat' (first | (simp [forEach_kept, apply_ite State.kept]; done) | split | dsimp only)

@[simp] theorem State.kept_identArrived (s : State) (port : Nat) (sender addressee : Word) (level lineCount flags : Byte) :
    (State.identArrived s port sender addressee level lineCount flags).kept = s.kept := by
  unfold State.identArrived
  repeat' (first | (simp [forEach_kept, apply_ite State.kept]; done) | split | dsimp only)

@[simp] theorem State.kept_receivePayload (s : State) (port : Nat) (kind sequence index : Byte) (payload : List Byte) :
    (State.receivePayload s port kind sequence index payload).kept = s.kept := by
  unfold State.receivePayload
  dsimp only
  split <;> simp

@[simp] theorem State.kept_discardChecked (s : State) (n : Nat) (sequence : Byte) (kind : Reason) :
    (State.discardChecked s n sequence kind).kept = s.kept := by
  unfold State.discardChecked
  repeat' (first | (simp [forEach_kept, apply_ite State.kept]; done) | split | dsimp only)

@[simp] theorem State.kept_judgeBytes (s : State) (port n : Nat) (bytes : List Byte) :
    (State.judgeBytes s port n bytes).kept = s.kept := by
  unfold State.judgeBytes
  repeat' (first | (simp [forEach_kept, apply_ite State.kept]; done) | split | dsimp only)

@[simp] theorem State.kept_huntChar (n : Nat) (c : LinkChar) (s : State) :
    (State.huntChar n c s).kept = s.kept := by
  unfold State.huntChar
  repeat' (first | (simp [forEach_kept, apply_ite State.kept]; done) | split | dsimp only)

@[simp] theorem State.kept_readChar (s : State) (port n : Nat) (up : Bool) (a : Assembly) (c : RxChar) :
    (State.readChar s port n up a c).1.kept = s.kept := by
  unfold State.readChar
  split <;> first | rfl | (simp; done) | (dsimp only; split <;> simp)

@[simp] theorem State.kept_readChars (port n : Nat) (cs : List LinkChar) (a : Assembly) (s : State) :
    (State.readChars port n cs a s).kept = s.kept := by
  induction cs generalizing a s with
  | nil => rfl
  | cons c r ih =>
    unfold State.readChars
    repeat' (first | rfl | (simp [ih]; done) | split | dsimp only)

@[simp] theorem State.kept_sendOldest (s : State) (n : Nat) (k : LinkSlot) :
    (State.sendOldest s n k).kept = s.kept := by
  unfold State.sendOldest
  repeat' (first | (simp [forEach_kept, apply_ite State.kept]; done) | split | dsimp only)

end Sys2Proof.Machine
end

