-- ==== Sys2Proof/Laws/Store.lean ====
section
/-! SUPPORT. Table lookups after an update, and the canonical form of the store's bytes: what a write reads as, and that
every operation on the bytes keeps the form. -/

namespace Sys2Proof.Machine

theorem Table.find_adjust_same {α : Type} (t : Table α) (k : Nat) (f : α → α) :
    (t.adjust k f).find k = (t.find k).map f := by
  induction t with
  | nil => rfl
  | cons p r ih =>
    obtain ⟨i, a⟩ := p
    by_cases h : i = k
    · simp [Table.adjust, Table.find, h]
    · simpa [Table.adjust, Table.find, h] using ih

theorem Table.find_adjust_other {α : Type} (t : Table α) {k j : Nat} (f : α → α) (h : j ≠ k) :
    (t.adjust k f).find j = t.find j := by
  induction t with
  | nil => rfl
  | cons p r ih =>
    obtain ⟨i, a⟩ := p
    by_cases hi : i = k
    · have : i ≠ j := fun e => h (e ▸ hi)
      simpa [Table.adjust, Table.find, hi, Ne.symm h] using ih
    · by_cases hj : i = j
      · subst hj; simp [Table.adjust, Table.find, hi]
      · simpa [Table.adjust, Table.find, hi, hj] using ih

/-- A record that is found is in the table. -/
theorem Table.mem_of_find {α : Type} {t : Table α} {k : Nat} {a : α} (h : t.find k = some a) : (k, a) ∈ t := by
  induction t with
  | nil => cases h
  | cons p r ih =>
    rw [Table.find] at h
    split at h
    · next hk => cases h; exact hk ▸ List.mem_cons_self
    · exact List.mem_cons_of_mem _ (ih h)

theorem Table.find_put_same {α : Type} (t : Table α) (k : Nat) (a : α) : (t.put k a).find k = some a := by
  induction t with
  | nil => simp [Table.put, Table.find]
  | cons p r ih =>
    obtain ⟨i, b⟩ := p
    by_cases h : k < i
    · simp [Table.put, Table.find, h]
    · by_cases h2 : k = i
      · simp [Table.put, Table.find, h2]
      · have : ¬i = k := fun e => h2 e.symm
        simp [Table.put, Table.find, h, h2, this, ih]

theorem Table.find_put_other {α : Type} (t : Table α) {k j : Nat} (a : α) (h : j ≠ k) :
    (t.put k a).find j = t.find j := by
  induction t with
  | nil => simp [Table.put, Table.find, Ne.symm h]
  | cons p r ih =>
    obtain ⟨i, b⟩ := p
    rw [Table.put]
    by_cases h1 : k < i
    · simp [Table.find, h1, Ne.symm h]
    · by_cases h2 : k = i
      · subst h2; simp [Table.find, Ne.symm h]
      · simp [Table.find, h1, h2, ih]

/-- Every identifier of a table after a put is the key or an identifier from before. -/
theorem Table.mem_put {α : Type} (t : Table α) (k : Nat) (a : α) :
    ∀ p ∈ t.put k a, p.1 = k ∨ ∃ q ∈ t, q.1 = p.1 := by
  induction t with
  | nil => intro p hp; left; simp [Table.put] at hp; simp [hp]
  | cons q r ih =>
    obtain ⟨i, b⟩ := q
    intro p hp
    rw [Table.put] at hp
    by_cases h1 : k < i
    · simp only [h1, if_true, List.mem_cons] at hp
      rcases hp with e | e | e
      · left; simp [e]
      · right; exact ⟨(i, b), by simp, by simp [e]⟩
      · right; exact ⟨p, by simp [e], rfl⟩
    · by_cases h2 : k = i
      · subst h2
        simp only [Nat.lt_irrefl, if_true, if_false, List.mem_cons] at hp
        rcases hp with e | e
        · left; simp [e]
        · right; exact ⟨p, by simp [e], rfl⟩
      · simp only [h1, h2, if_false, List.mem_cons] at hp
        rcases hp with e | e
        · right; exact ⟨(i, b), by simp, by simp [e]⟩
        · rcases ih p e with g | ⟨x, hx, g⟩
          · left; exact g
          · right; exact ⟨x, by simp [hx], g⟩

/-- A record put under a key keeps the identifiers in ascending order. -/
theorem Table.ascending_put {α : Type} (t : Table α) (k : Nat) (a : α)
    (h : (t.map fun p => p.1).Pairwise (· < ·)) : ((t.put k a).map fun p => p.1).Pairwise (· < ·) := by
  induction t with
  | nil => simp [Table.put]
  | cons p r ih =>
    obtain ⟨i, b⟩ := p
    simp only [List.map_cons, List.pairwise_cons] at h
    rw [Table.put]
    by_cases h1 : k < i
    · simp only [h1, if_true, List.map_cons, List.pairwise_cons]
      refine ⟨fun x hx => ?_, h⟩
      rcases List.mem_cons.1 hx with e | e
      · exact e ▸ h1
      · exact Nat.lt_trans h1 (h.1 x e)
    · by_cases h2 : k = i
      · simpa [h2] using h
      · simp only [h1, h2, if_false, List.map_cons, List.pairwise_cons]
        refine ⟨fun x hx => ?_, ih h.2⟩
        obtain ⟨p, hp, e⟩ := List.mem_map.1 hx
        rcases Table.mem_put r k a p hp with g | ⟨q, hq, g⟩
        · omega
        · have := h.1 q.1 (List.mem_map.2 ⟨q, hq, rfl⟩)
          omega

/-- A byte written is the byte read. -/
theorem Memory.read_write_same (m : Memory) (a : Nat) (b : Byte) (h : m.wf = true) :
    (Memory.write m a b).read a = b := by
  induction m with
  | nil => by_cases hb : b = erased <;> simp [Memory.write, Memory.read, hb]
  | cons p r ih =>
    obtain ⟨i, c⟩ := p
    simp only [Memory.wf, Bool.and_eq_true] at h
    have hr : ∀ p ∈ r, i < p.1 := by simpa using h.1.2
    have gap : ∀ {x : Nat}, x ≤ i → Memory.read r x = erased := by
      intro x hx
      clear ih h
      induction r with
      | nil => rfl
      | cons q t iht =>
        have hq := hr q (by simp)
        have : q.1 ≠ x := by omega
        simp only [Memory.read, this, if_false]
        exact iht fun p hp => hr p (by simp [hp])
    by_cases h1 : a < i
    · have hne : ¬i = a := by omega
      by_cases hb : b = erased
      · simp [Memory.write, Memory.read, h1, hb, hne, gap (Nat.le_of_lt h1)]
      · simp [Memory.write, Memory.read, h1, hb]
    · by_cases h2 : a = i
      · by_cases hb : b = erased
        · simp [Memory.write, h2, hb, gap (Nat.le_refl i)]
        · simp [Memory.write, Memory.read, h2, hb]
      · have hne : ¬i = a := fun e => h2 e.symm
        simp [Memory.write, Memory.read, h1, h2, hne, ih h.2]

/-- A write leaves every other address as it reads. -/
theorem Memory.read_write_other (m : Memory) {a x : Nat} (b : Byte) (h : x ≠ a) :
    (Memory.write m a b).read x = m.read x := by
  induction m with
  | nil => by_cases hb : b = erased <;> simp [Memory.write, Memory.read, hb, Ne.symm h]
  | cons p r ih =>
    obtain ⟨i, c⟩ := p
    by_cases h1 : a < i
    · by_cases hb : b = erased <;> simp [Memory.write, Memory.read, h1, hb, Ne.symm h]
    · by_cases h2 : a = i
      · have : ¬i = x := fun e => h (by omega)
        by_cases hb : b = erased <;> simp [Memory.write, Memory.read, h2, hb, this]
      · by_cases h3 : i = x
        · subst h3; simp [Memory.write, Memory.read, h1, h2]
        · simp [Memory.write, Memory.read, h1, h2, h3, ih]

theorem Memory.write_above {m : Memory} {j a : Nat} {b : Byte} (hm : ∀ p ∈ m, j < p.1) (ha : j < a) :
    ∀ p ∈ Memory.write m a b, j < p.1 := by
  induction m with
  | nil => by_cases hb : b = erased <;> simp [Memory.write, hb, ha]
  | cons q r ih =>
    obtain ⟨i, c⟩ := q
    have hi := hm (i, c) (by simp)
    have hr : ∀ p ∈ r, j < p.1 := fun p hp => hm p (by simp [hp])
    intro p hp
    by_cases h1 : a < i
    · by_cases hb : b = erased
      · simp [Memory.write, h1, hb] at hp; rcases hp with e | e
        · subst e; exact hi
        · exact hr p e
      · simp [Memory.write, h1, hb] at hp; rcases hp with e | e | e
        · subst e; exact ha
        · subst e; exact hi
        · exact hr p e
    · by_cases h2 : a = i
      · by_cases hb : b = erased
        · simp [Memory.write, h2, hb] at hp; exact hr p hp
        · simp [Memory.write, h2, hb] at hp; rcases hp with e | e
          · subst e; exact hi
          · exact hr p e
      · simp [Memory.write, h1, h2] at hp; rcases hp with e | e
        · subst e; exact hi
        · exact ih hr p e

/-- A write keeps the canonical form. -/
theorem Memory.wf_write (m : Memory) (a : Nat) (b : Byte) (h : m.wf = true) : (Memory.write m a b).wf = true := by
  induction m with
  | nil => by_cases hb : b = erased <;> simp [Memory.write, Memory.wf, hb]
  | cons p r ih =>
    obtain ⟨i, c⟩ := p
    have h' := h
    simp only [Memory.wf, Bool.and_eq_true] at h
    have hr : ∀ p ∈ r, i < p.1 := by simpa using h.1.2
    by_cases h1 : a < i
    · by_cases hb : b = erased
      · simpa [Memory.write, h1, hb] using h'
      · have hra : ∀ p ∈ r, a < p.1 := fun p hp => Nat.lt_trans h1 (hr p hp)
        have hw : Memory.wf ((a, b) :: (i, c) :: r) = true := by
          rw [Memory.wf, h']
          have : ((i, c) :: r).all (fun p => decide (a < p.1)) = true := by
            simpa [h1] using hra
          simp [hb, this]
        simpa [Memory.write, h1, hb] using hw
    · by_cases h2 : a = i
      · by_cases hb : b = erased
        · simpa [Memory.write, h2, hb] using h.2
        · have : Memory.wf ((a, b) :: r) = true := by
            simp only [Memory.wf, Bool.and_eq_true]
            refine ⟨⟨by simpa using hb, ?_⟩, h.2⟩
            simpa [h2] using hr
          simpa [Memory.write, h2, hb] using this
      · have hab := Memory.write_above hr (a := a) (b := b) (by omega)
        have : Memory.wf ((i, c) :: Memory.write r a b) = true := by
          simp only [Memory.wf, Bool.and_eq_true]
          exact ⟨⟨h.1.1, by simpa using hab⟩, ih h.2⟩
        simpa [Memory.write, h1, h2] using this

/-- A program keeps the canonical form. -/
theorem Memory.wf_andBytes (bs : List Byte) : ∀ (m : Memory) (a : Nat), m.wf = true → (m.andBytes a bs).wf = true := by
  induction bs with
  | nil => intro m a h; exact h
  | cons b r ih => intro m a h; exact ih _ _ (Memory.wf_write _ _ _ h)

/-- A program cut short keeps the canonical form. -/
theorem Memory.wf_andTorn (bs : List Byte) (keep : Nat → Bool) :
    ∀ (m : Memory) (a i : Nat), m.wf = true → (m.andTorn a bs keep i).wf = true := by
  induction bs with
  | nil => intro m a i h; exact h
  | cons b r ih =>
    intro m a i h
    simp only [Memory.andTorn]
    apply ih
    split
    · exact h
    · exact Memory.wf_write _ _ _ h

/-- What a program leaves at an address: outside its range the old byte, within it the AND (R170). -/
theorem Memory.read_andBytes_outside (bs : List Byte) :
    ∀ (m : Memory) (a x : Nat), (x < a ∨ a + bs.length ≤ x) → (m.andBytes a bs).read x = m.read x := by
  induction bs with
  | nil => intro m a x _; rfl
  | cons b r ih =>
    intro m a x hx
    simp only [List.length_cons] at hx
    rw [Memory.andBytes, ih _ _ _ (by omega), Memory.read_write_other _ _ (by omega)]

theorem Memory.read_andBytes_inside (bs : List Byte) :
    ∀ (m : Memory) (a i : Nat) (b : Byte), m.wf = true → bs[i]? = some b →
      (m.andBytes a bs).read (a + i) = m.read (a + i) &&& b := by
  induction bs with
  | nil => intro m a i b _ h; simp at h
  | cons c r ih =>
    intro m a i b hm h
    cases i with
    | zero =>
      simp at h; subst h
      rw [Memory.andBytes, Memory.read_andBytes_outside _ _ _ _ (by omega)]
      exact Memory.read_write_same _ _ _ hm
    | succ i =>
      have h2 : r[i]? = some b := by simpa using h
      have e : a + (i + 1) = (a + 1) + i := by omega
      rw [Memory.andBytes, e, ih _ _ _ _ (Memory.wf_write _ _ _ hm) h2, Memory.read_write_other _ _ (by omega)]

end Sys2Proof.Machine
end

