-- ==== Sys2Proof/Tests/Slice0.lean ====
section
/-! SUPPORT. The model's own tests: operands that the check refuses, frames, single commands on a small railway, and for
every statement with hypotheses a state and operands that meet them (`witness_…`). -/

namespace Sys2Proof.Tests

open Sys2Proof.Machine

/-! Well-formedness: one ill-formed term for each check, and a well-formed one beside it. -/

theorem test_wellFormed_frame : (Instr.badFrame [0x01, 1, 0, 0]).wellFormed = false
    ∧ (Instr.badFrame [0x01]).wellFormed = false ∧ (Instr.badFrame [0x01, 1, 0, 0, 0]).wellFormed = true := by decide
theorem test_wellFormed_program : (Instr.topoProgram 0 0 (List.replicate 248 0)).wellFormed = false
    ∧ (Instr.topoProgram 0 0 (List.replicate 247 0)).wellFormed = true := by decide +kernel
theorem test_wellFormed_element : [Instr.supervisionTimerExpiry 512, .throwTimerExpiry 512, .provingTimerExpiry 512,
    .returnWindowExpiry 512, .refreshTimerExpiry 512].all (fun c => !c.wellFormed)
    ∧ (Instr.throwTimerExpiry 511).wellFormed = true := by decide
theorem test_wellFormed_route : [Instr.storageTimerExpiry 384, .overlapTimerExpiry 48, .approachHoldExpiry 48,
    .timedReleaseExpiry 48].all (fun c => !c.wellFormed) ∧ (Instr.storageTimerExpiry 383).wellFormed = true := by decide
theorem test_wellFormed_item : [Instr.askTimerExpiry 16 0, .askTimerExpiry 0 8, .sweepHoldExpiry 16 0,
    .sweepHoldExpiry 0 8].all (fun c => !c.wellFormed) ∧ (Instr.askTimerExpiry 15 7).wellFormed = true := by decide
theorem test_wellFormed_slot : [Instr.holdoffTimerExpiry 4, .identTimerExpiry 4, .identSendIntervalExpiry 4,
    .silenceTimerExpiry 4, .imageTimerExpiry 4, .linkTelegramSend 4].all (fun c => !c.wellFormed)
    ∧ (Instr.linkTelegramSend 3).wellFormed = true := by decide
theorem test_wellFormed_port : [Instr.huntCharacter 4 .undecodable, .linkStrayCharacter 4 .undecodable,
    .linkTelegramRejected 4 [], .identReceived 4 0 0 1 2 1 0 0, .dirAskReceived 4 0 0 0, .dirYieldReceived 4 0 0,
    .dirRefuseReceived 4 0 0 0, .offerReceived 4 0 0 0, .acceptReceived 4 0 0 0, .declineReceived 4 0 0 0 0,
    .withdrawReceived 4 0 0 0, .passedReceived 4 0 0 0, .flankAskReceived 4 0 0 0 0, .flankGrantReceived 4 0 0 0 0 0,
    .flankDenyReceived 4 0 0 0 0 0, .flankFreeReceived 4 0 0 0 0 0].all (fun c => !c.wellFormed)
    ∧ (Instr.dirAskReceived 3 0 0 0).wellFormed = true := by decide
theorem test_wellFormed_image : (Instr.lineImageReceived 0 0 0 0 0 [0]).wellFormed = false
    ∧ (Instr.lineImageReceived 4 0 0 0 0 (List.replicate 8 0)).wellFormed = false
    ∧ (Instr.lineImageReceived 0 0 0 0 0 (List.replicate 8 0)).wellFormed = true := by decide
theorem test_wellFormed_line : [Instr.askDeadlineExpiry 16, .offerDeadlineExpiry 16, .hostDeadlineExpiry 16,
    .lineResetExpiry 16].all (fun c => !c.wellFormed) ∧ (Instr.lineResetExpiry 15).wellFormed = true := by decide

/-! Frames. -/

/-- The check value of CRC-16 with initial value all ones over the digits 1 to 9. -/
theorem test_crc16 : crc16 [0x31, 0x32, 0x33, 0x34, 0x35, 0x36, 0x37, 0x38, 0x39] = 0x29B1 := by decide +kernel
theorem test_frame_identify : judgeFrame ([0x01, 0] ++ Word.bytes (crc16 [0x01, 0])) = .request .identify := by
  decide +kernel
theorem test_frame_setRoute : judgeFrame ([0x09, 3, 0x00, 0x28, 0x01] ++ Word.bytes (crc16 [0x09, 3, 0x00, 0x28, 0x01]))
    = .request (.setRoute 40 1) := by decide +kernel
theorem test_frame_linkControl : judgeFrame ([0x17, 4, 2, 1, 0xFF, 0] ++ Word.bytes (crc16 [0x17, 4, 2, 1, 0xFF, 0]))
    = .request (.linkControlEnable 2 0xFF 0) := by decide +kernel
theorem test_frame_unknownKind : judgeFrame ([0x1D, 0] ++ Word.bytes (crc16 [0x1D, 0])) = .bad := by decide +kernel
theorem test_frame_shortProgram : judgeFrame ([0x05, 2, 0, 0] ++ Word.bytes (crc16 [0x05, 2, 0, 0])) = .bad := by
  decide +kernel
theorem test_frame_badCrc : judgeFrame [0x01, 0, 0, 0] = .bad := by decide +kernel
theorem test_frame_incomplete : judgeFrame [0x01, 0, 0xFF] = .incomplete := by decide

/-! The map example of chapter 2: the lowest entry whose window exceeds the offset is selected. -/

def mapEntry (m k b w : Word) : MapEntry := { matchValue := m, mask := k, base := b, window := w }

theorem test_map_selects : selectElement [mapEntry 0x0100 0xFF00 16 8, mapEntry 0x0100 0xFF00 64 256] 0x0107 = some 23
    ∧ selectElement [mapEntry 0x0100 0xFF00 16 8, mapEntry 0x0100 0xFF00 64 256] 0x0108 = some 72
    ∧ selectElement [mapEntry 0x0100 0xFF00 16 8] 0x0108 = none
    ∧ selectElement [mapEntry 0xFFFF 0xFFFF 0 0xFFFF] 0xFFFF = none := by decide

/-! A small railway: section 0 is the border section of line 0, points 1 lie in it, signal 2 is the entry signal, element
3 the boundary element of line 0, section 511 stands apart. Slot N0 is UP on port P0 and carries line 0. -/

def sectionOf (o : Occupancy) : Element :=
  { segment := some 1, address := some 0x0100, body := .sect { length := 100, timeout := 20, occupancy := o, supervision := some 0 } }
def pointsBody : PointsBody :=
  { containing := 0, throwLimit := 50, timeout := 20, detection := .normal, supervision := some 0, refresh := some 0,
    throwTimer := some 0, demanded := some .normal }
def pointsWith (b : PointsBody) : Element := { segment := some 1, address := some 0x0101, body := .points b }
def signalBody : SignalBody :=
  { provingTime := 10, timeout := 20, shown := .stop, supervision := some 0, refresh := some 0, proving := some 0,
    returnWindow := some 0 }
def signalWith (b : SignalBody) : Element := { segment := some 1, address := some 0x0102, body := .signal b }
def boundary : BoundaryBody := { line := 0, remoteLength := 200, image := .clear }
def boundaryElement : Element := { segment := some 1, address := some 0x0103, body := .boundary boundary }

/-- Route 7 from signal 2 over section 511 to signal 2's neighbour track, with no flank reference. -/
def definition7 : Definition :=
  { entry := 2, exit := 2, line := none, priority := 0, path := [{ element := 511, position := none }], overlap := [],
    beyond := some 0, approach := [], speed := 100, margin := 30, tMin := 10, tMax := 120, overlapTime := 0, flanks := [] }
def route7 : RouteEntry := { available := true, definition := some definition7 }
def record7 (st : RecordState) : RouteRecord :=
  { route := 7, state := st, hold := false, steps := [{ sect := 511, points := [] }], overlapStatus := .released,
    flanks := [], definition := definition7 }

def slot0 : LinkSlot :=
  { enabled := true, port := some 0, expected := 0x0020, threshold := 8, lines := [0], link := .up, silence := some 0,
    image := some 0 }
def line0 : Line :=
  { slot := some 0, index := 0, boundary := some 3, border := 0, entrySignal := 2,
    items := [(1, .pointsNormal), (0, .sectionClear)], policy := .autoAccept }

def site : State :=
  { State.reset with
    mode := .operating
    areaId := 0x0010
    cp := { State.reset.cp with receiver := .receiving }
    es := [(0, sectionOf .clear), (1, pointsWith pointsBody), (2, signalWith signalBody), (3, boundaryElement),
           (511, sectionOf .clear)]
    fi := { State.reset.fi with map := [mapEntry 0x0100 0xFF00 0 4, mapEntry 0x0200 0xFF00 511 256] }
    rse := { table := [(0, route7), (7, route7)], queue := [], triggers := 0 }
    lk := [(0, slot0), (1, {}), (2, {}), (3, {})]
    bu := [(0, line0)] }

def site.inMode (m : Mode) : State := { site with mode := m }
def site.withSlot (k : LinkSlot) : State := { site with lk := [(0, k), (1, {}), (2, {}), (3, {})] }
def site.withLine (r : Line) : State := { site with bu := [(0, r)] }
def site.withElement (e : Nat) (r : Element) : State := { site with es := site.es.adjust e fun _ => r }
def site.withRecord (r : RouteRecord) : State := { site with rsv := [(0, r)] }
def site.withItem (it : RemoteItem) : State := { site with fu := { site.fu with items := [(0, it)] } }
def site.withStore (ts : Store) : State := { site with ts := ts }

/-- The state that a command answers. -/
def after (c : Instr) (s : State) : State :=
  match exec c s with
  | .next t => t
  | _ => s

/-! Single commands. -/

theorem test_setRoute_clears : (after (.setRoute 7 0) site).cp.answer = some { status := 1, data := [0] }
    ∧ ((after (.setRoute 7 0) site).routeRecord 0).map (·.state) = some .clearing
    ∧ (after (.setRoute 7 0) site).lockOf 511 = some (.route 0 .path)
    ∧ ((after (.setRoute 7 0) site).signalAt 2).map (·.demanded) = some .proceed := by decide
theorem test_setRoute_occupied_isStored :
    (after (.setRoute 7 0) (site.withElement 511 (sectionOf .occupied))).cp.answer = some { status := 2, data := [1] }
    ∧ (after (.setRoute 7 2) (site.withElement 511 (sectionOf .occupied))).cp.answer
      = some { status := 3, data := [0x09, 0x01, 0xFF] } := by decide
theorem test_occupancy_entersInUse :
    let t := after (.fieldStatusTelegram 0x11 0x0200 1 (fieldCheck 0x11 0x0200 1))
      (site.withRecord { record7 .cleared with shownProceed := true })
    (t.routeRecord 0).map (fun r => (r.state, r.frontSeen)) = some (.inUse, true) ∧ t.occupancy 511 = .occupied := by
  decide
theorem test_signalStatus_proves :
    ((after (.fieldStatusTelegram 0x13 0x0102 1 0xEE) site).signalAt 2).map (fun b => (b.shown, b.proven, b.proving))
      = some (.proceed, true, none) := by decide
theorem test_offer_isAccepted :
    (after (.offerReceived 0 9 0 5) (site.withLine { line0 with token := .rest .inward })).lockOf 0
      = some (.entry 0) := by decide
theorem test_program_ands : (after .topoProgramComplete (site.withStore
      { site.ts with mem := [(512, 0xF0)], op := some (.program 1 0 [0x3C, 0xFF]) })).ts.mem = [(512, 0x30)] := by
  decide
theorem test_emptyStore_doesNotStart :
    (after .startPassComplete (site.inMode .starting)).ts.lastStart = some (.failed 0 0 .headerNotFrozen) := by
  decide +kernel
theorem test_tick_queuesExpiries :
    State.tick { State.reset with lk := [(0, { slot0 with silence := some 1, image := none })] }
      = { State.reset with lk := [(0, { slot0 with silence := some 0, image := none })],
                           pending := [.silenceTimerExpiry 0] } := by decide
theorem test_noWordSpellsACommand : decodeTableWord 8 1 = none ∧ site.withFetchWord 8 1 = site := by decide

/-! Witnesses. -/

theorem witness_EmptyQueuePassesOneTenth : site.pending = [] ∧ site.slot 0 = some slot0
    ∧ site.sectionAt 511 = some { length := 100, timeout := 20, occupancy := .clear, supervision := some 0 }
    ∧ site.tick.sectionAt 511 = some { length := 100, timeout := 20, occupancy := .clear, supervision := some 0 } := by
  decide
theorem witness_EmptyQueue_records : site.pointsAt 1 = some pointsBody ∧ site.signalAt 2 = some signalBody
    ∧ site.boundaryAt 3 = some boundary ∧ (site.withRecord (record7 .approachHold)).routeRecord 0 = some (record7 .approachHold)
    ∧ (site.withItem { state := .asked, askTimer := some 3 }).fu.items.find (8 * 0 + 0)
      = some { state := .asked, askTimer := some 3 }
    ∧ site.line 0 = some line0 ∧ site.mode = .operating ∧ (site.inMode .starting).pending = [] := by decide
theorem witness_EmptyQueue_absent : .supervisionTimerExpiry 511 ∈ site.tick.pending ∧ site.element 510 = none
    ∧ site.routeRecord 47 = none ∧ site.slot 4 = none ∧ site.fu.items.find 127 = none ∧ site.line 15 = none
    ∧ (site.withElement 511 { sectionOf .clear with body := .none }).element 511
      = some { sectionOf .clear with body := .none } := by decide
theorem witness_CommandsLeaveTheQueue : exec .readNotices site = .next (after .readNotices site) := by rfl
theorem witness_StoreStaysCanonical : StoreCanonical site ∧ step site = .next site.tick := ⟨rfl, rfl⟩
theorem witness_IdentifiersStay : TablesAscending site ∧ FourSlots site ∧ step site = .next site.tick :=
  ⟨by decide, by decide +kernel, rfl⟩
theorem witness_IdentifiersStay_records : RecordsAscending site ∧ QueueFits site := by decide
theorem witness_TriggersAreSpent : NoTriggerWaits site ∧ step site = .next site.tick := ⟨rfl, rfl⟩
theorem witness_RequestFramesAreJudgedBack : (Instr.topoProgram 243 511 [0xFF]).wellFormed = true
    ∧ requestFrame (.topoProgram 243 511 [0xFF]) = some (frameOf 0x05 [243, 1, 0xFF, 0xFF]) := by decide +kernel
theorem witness_BadFrameIsAnswered : [(0xAA : Byte)].length = (1 : Byte).toNat ∧ [(0 : Byte), 0].length = 2
    ∧ [0, 0] ≠ Word.bytes (crc16 [0x08, 1, 0xAA]) ∧ site.cp.receiver = .receiving
    ∧ judgeFrame [0x08, 1, 0xAA, 0, 0] = .bad := by decide +kernel
theorem witness_BadFrame_lengths : 0x1C < (0x1D : Byte).toNat ∧ ParameterLength (0x08 : Byte).toNat (1 : Byte).toNat
    ∧ ¬ ParameterLength (0x08 : Byte).toNat (2 : Byte).toNat ∧ ¬ ParameterLength (0x05 : Byte).toNat (251 : Byte).toNat := by
  simp +decide [ParameterLength]
theorem witness_SelectMovesTheReceiver : State.reset.cp.receiver = .idle ∧ site.cp.receiver = .receiving
    ∧ (after .identify site).cp.receiver = .answering := by decide
theorem witness_dataOut_answering : (answered site 0x05 []).cp.receiver = .answering
    ∧ (answered site 0x05 []).cp.answer = some { status := 0x05, data := [] } := by decide
theorem test_dataOut_idle_and_receiving : State.reset.dataOut 0 = none ∧ site.dataOut 250 = some 0xFF := by decide
theorem witness_RequestsAreGated : requestModes (.block 0) = some [.operating] ∧ NoTriggerWaits (site.inMode .halted)
    ∧ (site.inMode .halted).cp.receiver = .receiving ∧ (site.inMode .halted).mode ∉ [Mode.operating]
    ∧ NoTriggerWaits State.reset ∧ State.reset.cp.receiver ≠ .receiving := by decide
theorem witness_Receives : Receives site [.operating] ∧ Receives site [.operating, .halted]
    ∧ Receives site [.configuration, .starting, .operating] ∧ Receives (site.inMode .configuration) [.configuration]
    ∧ site.cp.receiver = .receiving := by decide
theorem witness_AttentionFollowsEnables : Receives site [.configuration, .starting, .operating]
    ∧ ((1 : Byte) = 0 ∨ (1 : Byte) = 1) ∧ (2 : Byte) ≠ 0 ∧ (2 : Byte) ≠ 1 := by decide

def unreadSite : State := { site with rse := { site.rse with table := [(0, { route7 with unread := true }), (7, route7)] } }

theorem witness_NextOutcome_wrongMode : (site.inMode .starting).cp.receiver = .receiving
    ∧ (site.inMode .starting).mode = .starting ∧ (site.inMode .configuration).mode = .configuration
    ∧ site.rse.table.find 7 = some route7 := by decide
theorem witness_NextOutcome_unread : Receives unreadSite [.operating, .halted] ∧ Ascending unreadSite.rse.table
    ∧ unreadSite.rse.table.find 0 = some { route7 with unread := true } := by decide
theorem witness_NextOutcome_lowest : ∀ (r' : Nat) (e' : RouteEntry), unreadSite.rse.table.find r' = some e' →
    e'.unread = true → 0 ≤ r' := fun r' _ _ _ => Nat.zero_le r'
theorem witness_NextOutcome_none : Ascending State.reset.rse.table
    ∧ ∀ (r : Nat) (e : RouteEntry), State.reset.rse.table.find r = some e → e.unread = false :=
  ⟨by decide, fun _ _ h => nomatch h⟩

def faultSite : State := site.withElement 0 { sectionOf .clear with faults := { supervisionLost := true } }

theorem witness_NextFault_set : Receives faultSite [.operating, .halted] ∧ Ascending faultSite.es
    ∧ faultSite.element 0 = some { sectionOf .clear with faults := { supervisionLost := true } }
    ∧ ({ supervisionLost := true } : Faults) ≠ {} := by decide
theorem witness_NextFault_lowest : ∀ (e' : Nat) (r' : Element), faultSite.element e' = some r' → r'.faults ≠ {} → 0 ≤ e' :=
  fun e' _ _ _ => Nat.zero_le e'
theorem witness_NextFault_none : Ascending State.reset.es
    ∧ ∀ (e : Nat) (r : Element), State.reset.element e = some r → r.faults = {} :=
  ⟨by decide, fun _ _ h => nomatch h⟩

/-! The store. -/

def config : State := site.inMode .configuration
def programmed (r : Segment) : State :=
  { config with ts := { config.ts with segments := [(0, r), (243, r)], op := some (.program 243 511 [0x0F]) } }
def frozenWith (flips : List Nat) (c : Condition) : Segment :=
  { count := 4, frozen := true, condition := c, lastClass := .clean, flips := flips }
def segmentSite (r : Segment) : State := { config with ts := { config.ts with segments := [(0, r), (243, r)] } }

theorem witness_ProgramBeginsAndAnds : Receives config [.configuration]
    ∧ (programmed .erased).ts.op = some (.program 243 511 [0x0F]) ∧ StoreCanonical (programmed .erased) := by
  decide
theorem witness_FreezeBeginsAndCompletes : Receives config [.configuration]
    ∧ ({ config.ts with op := some (.freeze 243) } : Store).op = some (.freeze 243) := by decide
theorem witness_TopoReadAndStatus_range : Receives (segmentSite (frozenWith [] .good)) [.configuration]
    ∧ (243 : Byte).toNat ≤ 243 ∧ 1 ≤ (240 : Byte).toNat ∧ (240 : Byte).toNat ≤ 240
    ∧ (272 : Word).toNat + (240 : Byte).toNat ≤ 512 ∧ 243 < (244 : Byte).toNat
    ∧ (segmentSite (frozenWith [] .good)).segment (243 : Byte).toNat = frozenWith [] .good
    ∧ config.segment 0 = .erased ∧ Segment.erased.frozen = false
    ∧ (0 : Byte).toNat < 1 ∧ 240 < (241 : Byte).toNat ∧ 512 < (273 : Word).toNat + (240 : Byte).toNat := by decide
theorem test_topoRead_uncorrectable : (after (.topoRead 243 1 1)
      (segmentSite (frozenWith [8, 0, 1, 2, 15] .good))).cp.answer = some { status := 0, data := [0x7E, 3] } := by decide
theorem witness_TopoReadAndStatus_classes : [[], [0, 4095], [0, 1, 4095], [0, 1, 2, 3], [0, 1, 2, 3, 4]].all (fun f =>
    decide ((frozenWith f .good).frozen = true ∧ (frozenWith f .good).flips.Nodup)) = true := by decide
theorem witness_StartAndItsPass : Receives config [.configuration] ∧ (site.inMode .starting).mode = .starting
    ∧ (site.inMode .starting).ts.op = none ∧ ((site.inMode .starting).segment 0).frozen = false := by decide

/-- Segment 0 frozen with area id 16, with two decayed bits, and nothing else defined: a store that START accepts. -/
def startable : State :=
  { site.inMode .starting with
    ts := { site.ts with mem := [(0, 0x00), (1, 0x10)], segments := [(0, frozenWith [7, 4000] .good)] } }

theorem witness_StartAndItsPass_header : startable.mode = .starting ∧ startable.ts.op = none
    ∧ (startable.segment 0).frozen = true ∧ (startable.segment 0).flips.Nodup
    ∧ (startable.segment 0).flips.length ≤ 4 ∧ 1 ≤ (startable.wordAt 0).toNat
    ∧ (startable.wordAt 0).toNat ≤ 4095 := by decide
/-- Sections 0 and 511 withdrawn at START, so that their records have no kind. -/
def unreadSections : State :=
  { site with es := [0, 511].map (fun e => (e, { segment := none, address := none, withdrawn := true, body := .none }))
      ++ [(1, pointsWith pointsBody)] }

theorem test_pointsNeedTheirSection_read_or_not : pointsBody.containing = 0
    ∧ unreadSections.readings 0 [] 0 [{ element := 0, position := none }, { element := 1, position := some .normal }]
      = [{ last := some 0, sections := 1 }]
    ∧ unreadSections.readings 0 [] 0 [{ element := 511, position := none }, { element := 1, position := some .normal }] = []
    ∧ unreadSections.readings 0 [0] 0 [{ element := 0, position := none }, { element := 1, position := some .normal }] = [] := by
  decide +kernel
theorem witness_StartAndItsPass_tables : (startable.passSegments 244).buildTables.validate = none := by
  decide +kernel
/-- A START that segment 0 or the tables built from the store may fail. -/
def startableWith (mem : Memory) (segments : Table Segment) : State :=
  { startable with ts := { startable.ts with mem := mem, segments := segments } }

theorem witness_StartAndItsPass_fails :
    ((startableWith [] [(0, frozenWith [0, 1, 2, 3, 4] .good)]).segment 0).flips.length = 5
    ∧ ((startableWith [(0, 0), (1, 0)] [(0, frozenWith [] .good)]).wordAt 0).toNat = 0
    ∧ 4095 < ((startableWith [(0, 0x10), (1, 0)] [(0, frozenWith [] .good)]).wordAt 0).toNat
    ∧ ((startableWith [(0, 0), (1, 16), (3, 0), (9, 0)] [(0, frozenWith [] .good)]).passSegments 244).buildTables.validate
      = some (0, 0, .portMap) := by decide +kernel
/-- The store of `startable` with a signal as element 1 and segment 2 uncorrectable. -/
def startableSignal : State :=
  startableWith [(0, 0), (1, 0x10), (544, 3), (545, 1), (546, 1), (547, 10), (548, 20)]
    [(0, frozenWith [] .good), (1, frozenWith [] .good), (2, frozenWith [0, 1, 2, 3, 4] .good)]

theorem witness_StartAndItsPass_succeeds : (after .startPassComplete startableSignal).mode = .operating
    ∧ (after .startPassComplete startableSignal).element 1 = some {
        segment := some 1, address := some 0x0101
        body := .signal { provingTime := 10, timeout := 20, supervision := some 20 } }
    ∧ (after .startPassComplete startableSignal).element 16
      = some { segment := none, address := none, withdrawn := true, body := .none }
    ∧ startableSignal.fi.demands.find 1 = none ∧ (after .startPassComplete startableSignal).slot 0 ≠ none := by
  decide +kernel

def scanning (r : Segment) (place : Nat) : State :=
  { site with ts := { site.ts with segments := [(0, r), (243, r)], scanPosition := place, scanTimer := some 0 } }

theorem witness_ScanReadsAndMovesOn : (scanning (frozenWith [0, 1, 2, 3] .good) 243).mode = .operating
    ∧ (scanning (frozenWith [0, 1, 2, 3] .good) 243).ts.scanTimer = some 0
    ∧ NoTriggerWaits (scanning (frozenWith [0, 1, 2, 3] .good) 243)
    ∧ (scanning (frozenWith [0, 1, 2, 3] .good) 243).segment 243 = frozenWith [0, 1, 2, 3] .good
    ∧ [0, 1, 2, 3].Nodup ∧ [0, 1, 2, 3].length ≤ 4 ∧ 3 ≤ [0, 1, 2, 3].length := by decide
theorem witness_ScanReads_unfrozen : (scanning .erased 243).segment 243 = .erased ∧ Segment.erased.frozen = false
    ∧ (scanning (frozenWith [] .withdrawn) 0).segment 0 = frozenWith [] .withdrawn := by decide

/-- The scan at segment `g`, frozen with five decayed bits. -/
def withdrawing (g : Nat) : State :=
  { site with
    ts := { site.ts with segments := [(g, frozenWith [0, 1, 2, 3, 4] .marginal)], scanPosition := g, scanTimer := some 0 }
    fu := { site.fu with groups := [(0, { Group.unread with available := true })] } }

theorem witness_ScanReads_withdraws : [1, 32, 33, 34, 35, 36, 51, 52, 243].all (fun g => decide
      ((withdrawing g).mode = .operating ∧ (withdrawing g).ts.scanTimer = some 0 ∧ NothingStored (withdrawing g)
        ∧ NoTriggerWaits (withdrawing g) ∧ (withdrawing g).segment g = frozenWith [0, 1, 2, 3, 4] .marginal
        ∧ Condition.marginal ≠ .withdrawn)) = true
    ∧ (withdrawing 32).element 511 = some (sectionOf .clear) ∧ 511 / 16 + 1 = 32
    ∧ (withdrawing 34).line 0 = some line0 ∧ 0 / 8 + 34 = 34 ∧ line0.boundary = some 3
    ∧ (withdrawing 52).rse.table.find (2 * (52 - 52) + 0) = some route7 ∧ 7 / 2 + 52 ≠ 52 := by decide
theorem witness_UncorrectableHeaderHalts : (scanning (frozenWith [0, 1, 2, 3, 4] .good) 0).mode = .operating
    ∧ (scanning (frozenWith [0, 1, 2, 3, 4] .good) 0).ts.scanTimer = some 0
    ∧ (scanning (frozenWith [0, 1, 2, 3, 4] .good) 0).segment 0 = frozenWith [0, 1, 2, 3, 4] .good
    ∧ [0, 1, 2, 3, 4].Nodup ∧ 5 ≤ [0, 1, 2, 3, 4].length
    ∧ (after .scanTimerExpiry (scanning (frozenWith [0, 1, 2, 3, 4] .good) 0)).mode = .halted := by decide
theorem witness_UncorrectableHeader_records : (site.withRecord (record7 .cleared)).routeRecord 0 = some (record7 .cleared)
    ∧ (site.withRecord (record7 .clearing)).occupancy definition7.firstSection ≠ .occupied := by decide
theorem witness_RestartDiscardsOperation : site.cp.receiver = .receiving ∧ site.slot 0 = some slot0
    ∧ (after .restart { site with fi := { site.fi with demands := [(2, { kind := .signal, address := 0x0102 })] } }).fi.demands.find
      2 = some { kind := .signal, address := 0x0102 }
    ∧ site.element 2 = some (signalWith signalBody) ∧ (signalWith signalBody).address = some 0x0102
    ∧ site.fi.demands.find 2 = none := by decide
theorem witness_PowerOnResetKeepsTheStore : (programmed .erased).ts.op = some (.program 243 511 [0x0F])
    ∧ [(0x0F : Byte)][0]? = some 0x0F ∧ StoreCanonical (programmed .erased) := by decide
theorem witness_PowerOnResetKeepsTheStore_noProgram (g offset : Nat) (data : List Byte) :
    site.ts.op ≠ some (.program g offset data) := nofun

/-! Elements. -/

theorem witness_Block_Unblock : site.cp.receiver = .receiving ∧ site.mode = .operating ∧ (511 : Word).toNat ≤ 511
    ∧ site.element (511 : Word).toNat = some (sectionOf .clear) ∧ config.mode ≠ .operating
    ∧ config.cp.receiver = .receiving := by decide
theorem witness_MovePoints_throws : Receives site [.operating] ∧ (1 : Word).toNat ≤ 511
    ∧ site.element (1 : Word).toNat = some (pointsWith pointsBody) ∧ (pointsWith pointsBody).body = .points pointsBody
    ∧ (pointsWith pointsBody).lock = none ∧ (pointsWith pointsBody).claim = none
    ∧ pointsBody.detection ≠ Position.reverse.detection ∧ pointsBody.moving = false
    ∧ site.occupancy pointsBody.containing = .clear ∧ site.isWithdrawn pointsBody.containing = false := by decide
theorem witness_MovePoints_refuses :
    (site.withElement 1 { pointsWith pointsBody with blocked := true }).element (1 : Word).toNat
      = some { pointsWith pointsBody with blocked := true } := by decide
theorem witness_MovePoints_free : site.element (511 : Word).toNat = some (sectionOf .clear)
    ∧ site.element (2 : Word).toNat = some (signalWith signalBody) ∧ site.element (3 : Word).toNat = some boundaryElement
    ∧ pointsBody.detection = Position.normal.detection
    ∧ ({ pointsBody with moving := true, demanded := some .reverse } : PointsBody).demanded = some .reverse
    ∧ (site.withElement 0 (sectionOf .unknown)).occupancy pointsBody.containing ≠ .clear
    ∧ (site.withElement 0 { sectionOf .clear with withdrawn := true }).isWithdrawn pointsBody.containing = true
    ∧ ({ pointsBody with moving := true } : PointsBody).demanded ≠ some .reverse := by decide
theorem witness_QueryElementAnswers : Receives site [.operating, .halted] ∧ (1 : Word).toNat ≤ 511
    ∧ site.element (1 : Word).toNat = some (pointsWith pointsBody) ∧ site.pointsAt 1 = some pointsBody
    ∧ (1 : Byte).getLsbD 0 = true ∧ (2 : Byte).getLsbD 0 = false := by decide
theorem witness_QueryElement_otherKind : site.element (2 : Word).toNat = some (signalWith signalBody)
    ∧ ∀ b, (signalWith signalBody).body ≠ .points b := ⟨by decide, nofun⟩

/-! The field link. -/

theorem witness_DroppedTelegramsAreCounted : site.mode = .operating ∧ NoTriggerWaits site
    ∧ (0 : Byte) ≠ fieldCheck 0x11 0x0100 0 ∧ (0x14 : Byte) ≠ 0x11 ∧ (0x14 : Byte) ≠ 0x12 ∧ (0x14 : Byte) ≠ 0x13
    ∧ selectElement site.fi.map 0x0201 = some 512 ∧ 511 < 512
    ∧ selectElement (mapEntry 0x0300 0xFF00 4 1 :: site.fi.map) 0x0300 = some 4 ∧ site.element 4 = none := by
  decide
theorem witness_DroppedTelegrams_unmapped (e : Nat) (h : selectElement site.fi.map 0x0400 = some e) :
    511 < e ∨ site.element e = none := by
  have : selectElement site.fi.map 0x0400 = none := by decide
  rw [this] at h
  exact nomatch h
theorem witness_DroppedTelegrams_mismatch : Selects site 0x12 0x0200 1 (fieldCheck 0x12 0x0200 1) 511
    ∧ site.element 511 = some (sectionOf .clear) ∧ (0x12 : Byte) ≠ 0x11 ∧ (sectionOf .clear).faults.kindMismatchSeen = false
    ∧ Selects site 0x12 0x0103 1 (fieldCheck 0x12 0x0103 1) 3 ∧ site.element 3 = some boundaryElement
    ∧ Selects (site.withElement 511 { sectionOf .clear with body := .none }) 0x11 0x0200 1 (fieldCheck 0x11 0x0200 1) 511 := by
  decide
theorem witness_ValidStatusIsWritten : Selects site 0x11 0x0200 2 (fieldCheck 0x11 0x0200 2) 511
    ∧ site.sectionAt 511 = some { length := 100, timeout := 20, occupancy := .clear, supervision := some 0 }
    ∧ Selects site 0x12 0x0101 2 (fieldCheck 0x12 0x0101 2) 1 ∧ site.pointsAt 1 = some pointsBody
    ∧ Selects site 0x13 0x0102 1 (fieldCheck 0x13 0x0102 1) 2 ∧ site.signalAt 2 = some signalBody := by decide
theorem witness_ValidStatus_points : NothingStored site ∧ site.element 1 = some (pointsWith pointsBody)
    ∧ pointsBody.moving = false ∧ pointsBody.detection = .normal ∧ pointsBody.demanded = some .normal
    ∧ (2 : Byte) = (if Position.reverse = .normal then 1 else 2) ∧ pointsBody.detection ≠ Position.reverse.detection
    ∧ (site.withElement 1 (pointsWith { pointsBody with moving := true, demanded := some .reverse })).element 1
      = some (pointsWith { pointsBody with moving := true, demanded := some .reverse }) := by decide
theorem witness_ValidStatus_signal : site.element 2 = some (signalWith signalBody) ∧ site.claimOn 2 = none
    ∧ signalBody.demanded = .stop ∧ ({ signalBody with returnWindow := none } : SignalBody).returnWindow = none
    ∧ signalBody.proving.isSome = true ∧ signalBody.shown ≠ .proceed
    ∧ (site.withRecord (record7 .clearing)).routeRecord 0 = some (record7 .clearing) ∧ definition7.entry = 2
    ∧ (site.withRecord { record7 .locked with replaced := some (.signalLost, 2) }).occupancy definition7.firstSection
      ≠ .occupied
    ∧ (site.withElement 2 (signalWith { signalBody with demanded := .proceed, shown := .proceed, proven := true })).element 2
      = some (signalWith { signalBody with demanded := .proceed, shown := .proceed, proven := true }) := by decide

/-- Route 7 over sections 511 and 0 with an overlap of section 510, and a train in its first section. -/
def train : RouteRecord :=
  { record7 .inUse with
    definition := { definition7 with
      path := [{ element := 511, position := none }, { element := 0, position := none }]
      overlap := [{ element := 510, position := none }], beyond := some 510, overlapTime := 9 }
    steps := [{ sect := 511, points := [] }, { sect := 0, points := [] }], overlapStatus := .held, frontSeen := true }
def trainSite (first last beyond : Occupancy) (r : RouteRecord) : State :=
  { site.withRecord r with
    es := [(0, sectionOf last), (1, pointsWith pointsBody), (2, { signalWith signalBody with lock := some (.route 0 .path) }),
           (3, boundaryElement), (510, sectionOf beyond), (511, sectionOf first)]
    fi := { site.fi with map := [mapEntry 0x0100 0xFF00 0 4, mapEntry 0x0200 0xFF00 510 2] } }

theorem witness_ValidStatus_entry : [{ train with state := .cleared }, { train with state := .locked, shownProceed := true },
      { train with state := .approachHold }].all (fun r => decide
        ((trainSite .clear .clear .clear r).routeRecord 0 = some r
          ∧ Selects (trainSite .clear .clear .clear r) 0x11 0x0201 1 (fieldCheck 0x11 0x0201 1) 511
          ∧ NothingStored (trainSite .clear .clear .clear r) ∧ Ascending (trainSite .clear .clear .clear r).rsv
          ∧ r.definition.firstSection = 511 ∧ r.steps ≠ []
          ∧ (trainSite .clear .clear .clear r).lockOf r.definition.entry = some (.route 0 .path)
          ∧ (trainSite .clear .clear .clear r).occupancy 511 ≠ .occupied)) = true := by decide
theorem witness_ValidStatus_passage : (trainSite .occupied .occupied .occupied train).routeRecord 0 = some train
    ∧ train.state = .inUse ∧ train.discrepancy = false ∧ train.frontSeen = true
    ∧ Selects (trainSite .occupied .occupied .occupied train) 0x11 0x0201 0 (fieldCheck 0x11 0x0201 0) 511
    ∧ (trainSite .occupied .occupied .occupied train).occupancy 0 = .occupied
    ∧ (trainSite .occupied .clear .clear train).occupancy 0 ≠ .occupied
    ∧ Selects (trainSite .occupied .clear .clear train) 0x11 0x0200 1 (fieldCheck 0x11 0x0200 1) 510
    ∧ 510 ∈ train.definition.overlap.map (·.element)
    ∧ Selects (trainSite .occupied .clear .clear train) 0x11 0x0100 1 (fieldCheck 0x11 0x0100 1) 0
    ∧ 0 = train.definition.lastSection ∧ 0 ∉ train.definition.overlap.map (·.element)
    ∧ train.definition.overlapTime ≠ 0 := by decide
theorem witness_ValidStatus_lastStep :
    (trainSite .clear .occupied .occupied { train with steps := [{ sect := 0, points := [] }], overlapStatus := .released }).routeRecord 0
      = some { train with steps := [{ sect := 0, points := [] }], overlapStatus := .released }
    ∧ train.definition.line = none ∧ train.handover = none ∧ train.definition.beyond = some 510 ∧ 510 ≠ 0
    ∧ (trainSite .clear .occupied .occupied train).occupancy 510 = .occupied
    ∧ ((trainSite .clear .occupied .occupied train).rsv.map (·.1)) = [0]
    ∧ (site.withElement 3 { boundaryElement with body := .boundary { boundary with image := .occupied } }).remoteImage 3
      = .occupied := by decide

def demanding (last : Nat) : State :=
  { site with fi := { site.fi with demands := [(1, { kind := .points, address := 0x0101 }),
                                               (2, { kind := .signal, address := 0x0102 })], lastSent := last } }

theorem demanding_find (last e : Nat) (h : ((demanding last).fi.demands.find e).isSome = true) : e = 1 ∨ e = 2 := by
  by_cases h1 : 1 = e
  · exact .inl h1.symm
  · by_cases h2 : 2 = e
    · exact .inr h2.symm
    · simp [demanding, Table.find, h1, h2] at h

theorem witness_DemandTelegramIsSent_next : (demanding 1).fi.demands.find 2 = some { kind := .signal, address := 0x0102 }
    ∧ Ascending (demanding 1).fi.demands ∧ (demanding 1).signalAt 2 = some signalBody ∧ (demanding 1).fi.lastSent < 2
    ∧ ∀ e', ((demanding 1).fi.demands.find e').isSome → (demanding 1).fi.lastSent < e' → 2 ≤ e' :=
  ⟨by decide, by decide +kernel, by decide +kernel, by decide +kernel,
    fun _ _ (h : 1 < _) => h⟩
theorem witness_DemandTelegramIsSent_wraps : (demanding 511).fi.demands.find 1 = some { kind := .points, address := 0x0101 }
    ∧ (demanding 511).pointsAt 1 = some pointsBody ∧ pointsBody.demanded = some .normal
    ∧ 1 ≤ (demanding 511).fi.lastSent
    ∧ ∀ e', ((demanding 511).fi.demands.find e').isSome → 1 ≤ e' ∧ e' ≤ (demanding 511).fi.lastSent :=
  ⟨by decide, by decide +kernel, rfl, by decide +kernel, fun e' h => by
    rcases demanding_find 511 e' h with h | h <;> subst h <;> decide⟩

theorem witness_FieldTimersLatchFaults :
    site.sectionAt 511 = some { length := 100, timeout := 20, occupancy := .clear, supervision := some 0 }
    ∧ site.pointsAt 1 = some pointsBody ∧ pointsBody.supervision = some 0
    ∧ site.signalAt 2 = some signalBody ∧ signalBody.supervision = some 0
    ∧ (site.withElement 1 (pointsWith { pointsBody with moving := true })).pointsAt 1
      = some { pointsBody with moving := true } ∧ pointsBody.throwTimer = some 0 := by decide
theorem witness_FieldTimers_record :
    let q := { record7 .setting with definition := { definition7 with
      path := [{ element := 0, position := none }, { element := 1, position := some .normal }] } }
    let s := { site.withElement 1 (pointsWith { pointsBody with moving := true }) with rsv := [(0, q)] }
    s.claimOn 1 = none ∧ NothingStored s ∧ s.routeRecord 0 = some q ∧ (q.definition.required 1).isSome
    ∧ pointsBody.detection = .normal ∧ ({ sectionOf .clear with faults := {} } : Element).faults.supervisionLost = false := by
  decide
theorem onlyRecord (s : State) (q : RouteRecord) (h : s.rsv = [(0, q)]) : OnlyRecordOf s 0 q := by
  intro n x hx _
  rw [State.routeRecord, h, Table.find] at hx
  split at hx
  · next he => exact he.symm
  · exact nomatch hx
theorem witness_SignalAndRefreshTimersExpire : site.element 2 = some (signalWith signalBody)
    ∧ (signalWith signalBody).body = .signal signalBody ∧ signalBody.proving = some 0
    ∧ signalBody.returnWindow = some 0 ∧ signalBody.demanded = .stop ∧ signalBody.shown ≠ .proceed
    ∧ (site.withElement 2 (signalWith { signalBody with shown := .proceed })).signalAt 2
      = some { signalBody with shown := .proceed }
    ∧ signalBody.refresh = some 0 ∧ pointsBody.refresh = some 0 ∧ pointsBody.demanded.isSome = true := by decide
def provingSite (aspect : Shown) (first : Occupancy) : State :=
  { site.withRecord (record7 .clearing) with
    es := [(2, signalWith { signalBody with shown := aspect }), (511, sectionOf first)] }

theorem witness_ProvingTimer_records : [(Shown.stop, Occupancy.clear), (.proceed, .clear), (.proceed, .occupied)].all (fun x =>
      decide ((provingSite x.1 x.2).element 2 = some (signalWith { signalBody with shown := x.1 })
        ∧ NothingStored (provingSite x.1 x.2) ∧ (provingSite x.1 x.2).routeRecord 0 = some (record7 .clearing)
        ∧ (provingSite x.1 x.2).occupancy definition7.firstSection = x.2)) = true
    ∧ definition7.entry = 2 ∧ (record7 .clearing).steps ≠ [] ∧ (signalWith signalBody).faults.notProven = false := by decide

/-! Routes. -/

def queued (n : Nat) : List QueueEntry :=
  (List.range n).map fun i => { route := 100 + i, hold := false, timer := some 0, reason := .occupied, element := none }
def withQueue (q : List QueueEntry) (s : State) : State := { s with rse := { s.rse with queue := q } }

/-! A pass over a stored request, and the commands that make one. -/

def waiting : State := withQueue [{ route := 7, hold := true, timer := some 9, reason := .occupied, element := some 511 }] site

theorem witness_Pass_results : (waiting.rse.queue.find? fun q => q.route == 7).isSome
    ∧ waiting.examine 7 = .ok (definition7, []) ∧ waiting.rsv.lowestFree 48 = some 0
    ∧ { waiting with es := (site.withElement 511 (sectionOf .occupied)).es }.examine 7 = .error (.occupied, some 511)
    ∧ { waiting with es := (site.withElement 511 { sectionOf .clear with blocked := true }).es }.examine 7
      = .error (.blocked, some 511) ∧ Reason.occupied.waitable = true ∧ Reason.blocked.waitable = false :=
  ⟨rfl, rfl, rfl, rfl, rfl, rfl, rfl⟩
theorem witness_Pass_telegrams :
    Selects (withQueue waiting.rse.queue (site.withElement 511 (sectionOf .occupied))) 0x11 0x0200 0 (fieldCheck 0x11 0x0200 0) 511
    ∧ Selects (withQueue waiting.rse.queue (site.withElement 511 (sectionOf .unknown))) 0x11 0x0200 1 (fieldCheck 0x11 0x0200 1) 511
    ∧ Selects (withQueue waiting.rse.queue (site.withElement 1 (pointsWith { pointsBody with detection := .unknown })))
      0x12 0x0101 1 (fieldCheck 0x12 0x0101 1) 1
    ∧ waiting.mode = .operating
    ∧ ((site.inMode .halted).mode = .halted ∧ (after .readNotices (site.inMode .halted)).mode = .halted) := by decide
theorem witness_Pass_expiries : (withQueue waiting.rse.queue (scanning (frozenWith [0, 1, 2, 3, 4] .good) 243)).mode = .operating
    ∧ (withQueue waiting.rse.queue (scanning (frozenWith [0, 1, 2, 3, 4] .good) 243)).ts.scanPosition = 243
    ∧ (withQueue waiting.rse.queue (site.withSlot { slot0 with link := .ident })).slotOfPort 0 = some 0
    ∧ [{ record7 .inUse with overlapStatus := .timing, overlapTimer := some 0 },
       { record7 .approachHold with holdTimer := some 0 },
       { record7 .timedRelease with holdTimer := some 0 }].all (fun r => decide
        ((withQueue waiting.rse.queue (site.withRecord r)).routeRecord 0 = some r)) = true
    ∧ (withQueue waiting.rse.queue (site.withElement 1 (pointsWith { pointsBody with moving := true }))).pointsAt 1
      = some { pointsBody with moving := true } := by decide
theorem test_pass_takes : (after (.fieldStatusTelegram 0x11 0x0200 0 (fieldCheck 0x11 0x0200 0))
      (withQueue waiting.rse.queue (site.withElement 511 (sectionOf .occupied)))).rsv.map (fun p => (p.1, p.2.route, p.2.hold))
      = [(0, 7, true)] := by decide

theorem witness_SetRoute_immediate : Receives site [.operating] ∧ NoTriggerWaits site ∧ 383 < (384 : Word).toNat
    ∧ site.rse.table.find (383 : Word).toNat = none ∧ (7 : Word).toNat ≤ 383
    ∧ (site.rse.table.find (7 : Word).toNat).isSome
    ∧ ((site.withRecord (record7 .cleared)).activeRecord (7 : Word).toNat).isSome
    ∧ site.activeRecord (7 : Word).toNat = none
    ∧ ((withQueue [{ route := 7, hold := false, timer := some 1, reason := .occupied, element := none }]
        site).rse.queue.any fun q => q.route == (7 : Word).toNat) = true
    ∧ 16 ≤ (withQueue (queued 16) site).rse.queue.length := by decide
theorem witness_SetRoute_waits : (withQueue (queued 14) (site.withElement 511 (sectionOf .occupied))).rse.queue.length = 14
    ∧ (withQueue (queued 14) (site.withElement 511 (sectionOf .occupied))).checkOccupancy definition7
      = some (.occupied, some 511)
    ∧ Reason.occupied.waitable = true ∧ (0 : Byte).getLsbD 1 = false ∧ (2 : Byte).getLsbD 1 = true
    ∧ Reason.blocked.waitable = false := by decide
theorem witness_SetRoute_stored : (site.withElement 511 (sectionOf .occupied)).examine 7 = .error (.occupied, some 511) := by
  rfl
theorem site_inService (e : Nat) : InService site e := fun _ h =>
  (by decide : ∀ p ∈ site.es, p.2.withdrawn = false ∧ p.2.blocked = false) _ (Table.mem_of_find h)

theorem witness_SetRoute_passes : RouteAvailable site route7 definition7 ∧ EntryFree site definition7
    ∧ LinkReady site definition7 ∧ site.chooseFlanks definition7 definition7.flanks [] = .ok []
    ∧ site.newClaims [] ≤ 128 - site.fu.claims.length ∧ site.routeRecord 47 = none := by
  refine ⟨⟨rfl, fun _ h => (nomatch h), fun _ _ h => (nomatch h), fun e x _ h => (site_inService e x h).1⟩,
    ⟨by decide, fun n c h => ?_⟩, fun _ h => (nomatch h), rfl, by decide, by decide⟩
  rw [(by decide : site.claimOn definition7.entry = none)] at h
  exact nomatch h
theorem witness_SetRoute_entriesPass : ∀ x, x ∈ definition7.path ++ definition7.overlap →
    Unlocked site x ∧ SectionIsClear site x ∧ Unclaimed site x := by
  intro x h
  rw [List.mem_singleton.1 h]
  refine ⟨⟨by decide, fun h => (nomatch h)⟩, fun _ => by decide, fun n c h => ?_⟩
  rw [(by decide : site.claimOn 511 = none)] at h
  exact nomatch h
theorem witness_SetRoute_checksFail : ¬ RouteAvailable site { route7 with available := false } definition7
    ∧ ¬ EntryFree (site.withElement 2 { signalWith signalBody with lock := some (.route 1 .path) }) definition7
    ∧ (site.withElement 511 { sectionOf .clear with blocked := true }).element 511
      = some { sectionOf .clear with blocked := true }
    ∧ ¬ Unlocked (site.withElement 511 { sectionOf .clear with lock := some (.entry 0) }) { element := 511, position := none }
    ∧ ¬ SectionIsClear (site.withElement 511 (sectionOf .unknown)) { element := 511, position := none }
    ∧ ¬ Unclaimed { site.withElement 511 { sectionOf .clear with claim := some 0 } with
        fu := { site.fu with claims := [(0, { element := 511, demand := .sectionClear, holders := [], satisfied := true,
                                              move := false })] } } { element := 511, position := none }
    ∧ ¬ LinkReady (site.withSlot { slot0 with link := .hunt }) { definition7 with line := some 0 }
    ∧ site.search (.candidate { definition7 with flanks := [(255, 0)] } []) 255 1 = none := by
  refine ⟨fun h => absurd h.1 (by decide), fun h => absurd h.1 (by decide), by decide, fun h => absurd h.1 (by decide),
    fun h => absurd (h rfl) (by decide), fun h => ?_, fun h => absurd (h 0 rfl) (by decide), by decide⟩
  exact h 0 _ rfl rfl

/-- Route 7 toward the border over points 1, with a LOCAL and a REMOTE flank reference. -/
def definitionB : Definition :=
  { definition7 with
    exit := 3, line := some 0, beyond := none, approach := [510], flanks := [(0, 2), (1, 2)]
    path := [{ element := 511, position := none }, { element := 0, position := none },
             { element := 1, position := some .reverse }] }
def flankSite : State :=
  { site with
    es := [(0, sectionOf .clear), (1, pointsWith pointsBody), (2, signalWith signalBody), (3, boundaryElement),
           (4, pointsWith { pointsBody with containing := 511 }), (510, sectionOf .clear), (511, sectionOf .clear)]
    rse := { site.rse with table := [(7, { route7 with definition := some definitionB })] }
    fu := { site.fu with groups :=
      [(0, { available := true, protectedElement := 1, position := .reverse, alternatives := [.localAlt 4 .pointsNormal] }),
       (1, { available := true, protectedElement := 1, position := .reverse, alternatives := [.remoteAlt 0 0] })] } }

theorem witness_CheckOne_group : FirstFailing definitionB.flanks
    (fun f => ∀ g, { flankSite with fu := { flankSite.fu with groups := [(0, Group.unread)] } }.fu.groups.find f.1 = some g →
      g.available = true) (0, 2) :=
  ⟨[], [(1, 2)], rfl, nofun, fun h => absurd (h Group.unread rfl) (by decide)⟩
theorem witness_CheckOne_elements : FirstFailing (definitionB.exit :: definitionB.beyond.toList ++ definitionB.approach)
    (fun e => ∀ x, { flankSite with es := [(510, { sectionOf .clear with withdrawn := true })] }.element e = some x →
      x.withdrawn = false) 510 := by
  refine ⟨[3], [], rfl, fun y hy x h => ?_, fun h => absurd (h _ rfl) (by decide)⟩
  rw [List.mem_singleton.1 hy] at h
  exact nomatch h
theorem witness_CheckOne_line : definitionB.line = some 0 ∧ { line0 with withdrawn := true }.withdrawn = true
    ∧ ({ flankSite with bu := [(0, { line0 with withdrawn := true })] } : State).line 0 = some { line0 with withdrawn := true } := by decide
theorem witness_CheckEight : definitionB.flanks = [(0, 2)] ++ (1, 2) :: []
    ∧ flankSite.chooseFlanks definitionB [(0, 2)] [] = .ok [(1, .localAlt 4 .pointsNormal)]
    ∧ localChoices [(1, .localAlt 4 .pointsNormal)] = [(4, .pointsNormal)]
    ∧ { flankSite with bu := [] }.search (.candidate definitionB [(4, .pointsNormal)]) 1 1 = none
    ∧ definitionB.path[2]? = some { element := 1, position := some .reverse }
    ∧ ({ route7 with definition := none } : RouteEntry).definition = none := ⟨rfl, rfl, rfl, rfl, rfl, rfl⟩

theorem witness_Take_boundary : flankSite.examine 7
      = .ok (definitionB, [(1, .localAlt 4 .pointsNormal), (1, .remoteAlt 0 0)])
    ∧ flankSite.rsv.lowestFree 48 = some 0 ∧ ((definitionB.path ++ definitionB.overlap).map (·.element)).Nodup
    ∧ flankSite.pointsAt 1 = some pointsBody ∧ pointsBody.detection ≠ Position.reverse.detection
    ∧ definitionB.path.head?.map (·.position) = some none ∧ flankSite.line 0 = some line0
    ∧ line0.token = .rest .unset
    ∧ { line0 with token := .rest .outward }.conflict = false :=
  ⟨rfl, rfl, by decide, rfl, by decide, rfl, rfl, rfl, rfl⟩
theorem witness_Take_claimsAgree : ClaimsAgree flankSite :=
  ⟨nofun, fun e x n h hx => nomatch ((by decide : ∀ p ∈ flankSite.es, p.2.claim = none) _ (Table.mem_of_find h)).symm.trans hx⟩
theorem test_take_boundary : ((after (.setRoute 7 0) flankSite).routeRecord 0).map (fun q =>
      (q.state, q.flanks.map (·.state), q.handover.map (·.status)))
      = some (.handoverWait, [.held, .remotePending], some .direction) := by decide
theorem witness_SettingToLocked :
    let q := { record7 .setting with definition := { definition7 with
      path := [{ element := 0, position := none }, { element := 1, position := some .reverse }] } }
    let s := { site with rsv := [(0, q)] }
    Selects s 0x12 0x0101 2 (fieldCheck 0x12 0x0101 2) 1 ∧ NothingStored s ∧ s.pointsAt 1 = some pointsBody
    ∧ s.claimOn 1 = none ∧ pointsBody.detection ≠ Position.reverse.detection ∧ q.flanks = [] ∧ q.handover = none
    ∧ (q.definition.path ++ q.definition.overlap).filterMap (·.position) = [.reverse] := by decide

/-- Every route slot in use, or every claim record. -/
def recordsFull : State := { site with rsv := (List.range 48).map fun n => (n, { record7 .cleared with route := 8 + n }) }
def claimsFull : State := { site with fu := { site.fu with claims := (List.range 128).map fun n => (n,
  { element := 300, demand := .sectionClear, holders := [], satisfied := true, move := false }) } }

theorem witness_SetRoute_full : ((List.range 48).all fun n => (recordsFull.routeRecord n).isSome) = true
    ∧ 128 - claimsFull.fu.claims.length < claimsFull.newClaims [(1, .localAlt 1 .pointsNormal)] := by decide +kernel
theorem witness_SetRoute_taken : site.examine 7 = .ok (definition7, []) ∧ site.rsv.lowestFree 48 = some 0
    ∧ NothingStored site ∧ (site.element 2).isSome ∧ (site.element 511).isSome := ⟨rfl, rfl, rfl, rfl, rfl⟩
theorem witness_SetRoute_overlap : ({ definition7 with overlap := [{ element := 0, position := none }] }
      : Definition).overlap.map (·.element) = [0] ∧ 0 ≠ definition7.entry ∧ 0 ∉ definition7.path.map (·.element)
    ∧ (site.element 0).isSome := by decide

theorem witness_CancelRoute : NoTriggerWaits site ∧ (7 : Word).toNat ≤ 383
    ∧ ((withQueue [{ route := 7, hold := false, timer := some 0, reason := .occupied, element := none }]
        site).rse.queue.any fun q => q.route == (7 : Word).toNat) = true
    ∧ (site.rse.queue.any fun q => q.route == (7 : Word).toNat) = false ∧ site.activeRecord (7 : Word).toNat = none
    ∧ [RecordState.inUse, .approachHold, .timedRelease, .clearing, .cleared].all (fun st => decide
        ((site.withRecord (record7 st)).activeRecord (7 : Word).toNat = some (0, record7 st))) = true
    ∧ (site.withRecord (record7 .cleared)).approachCheck definition7 = some 1200 := by decide
theorem witness_CancelRoute_ends : NothingStored site
    ∧ [record7 .setting, record7 .handoverWait, record7 .locked, { record7 .locked with shownProceed := true },
       record7 .clearing, record7 .cleared].all (fun r => decide
        ((site.withRecord r).activeRecord (7 : Word).toNat = some (0, r) ∧ (site.withRecord r).routeRecord 0 = some r)) = true
    ∧ site.approachCheck { definition7 with approach := [511] } = none := by decide
theorem witness_ApproachCheck : definition7.approach = []
    ∧ (site.approachInput 511).2 = .clear ∧ ((site.withElement 0 (sectionOf .occupied)).approachInput 0).2 ≠ .clear
    ∧ ((site.withElement 0 (sectionOf .occupied)).approachInput 511).2 = .clear
    ∧ (site.withElement 0 (sectionOf .occupied)).approachCheck { definition7 with approach := [511, 0] }
      = some 102 := by decide
theorem witness_ApproachInput : (site.element 511) = some (sectionOf .clear) ∧ site.element 3 = some boundaryElement
    ∧ site.approachInput 3 = (200, .clear)
    ∧ (site.withElement 3 { boundaryElement with withdrawn := true }).approachInput 3 = (200, .unknown) := by decide

/-- Route 7 in LOCKED with its elements locked, and what one element of it is. -/
def lockedSite (entry first : Element) (r : RouteRecord) : State :=
  { site.withRecord r with
    es := [(2, { entry with lock := some (.route 0 .path) }), (3, boundaryElement),
           (511, { first with lock := some (.route 0 .path) })] }
def allLocked : State := lockedSite (signalWith signalBody) (sectionOf .clear) (record7 .locked)

theorem witness_Conditions_locks : FirstFailing (recordElements (record7 .locked))
      (fun x => site.lockOf x.1 = some (.route 0 x.2)) (2, .path)
    ∧ ∀ x, x ∈ recordElements (record7 .locked) → allLocked.lockOf x.1 = some (.route 0 x.2) :=
  ⟨⟨[], _, rfl, nofun, by decide⟩, by decide⟩
theorem witness_Conditions_withdrawn : FirstFailing (recordElements (record7 .locked))
      (fun x => (lockedSite (signalWith signalBody) { sectionOf .clear with withdrawn := true }
        (record7 .locked)).isWithdrawn x.1 = false) (511, .path)
    ∧ ∀ x, x ∈ recordElements (record7 .locked) → allLocked.isWithdrawn x.1 = false :=
  ⟨⟨[(2, .path)], [], rfl, by decide, by decide⟩, by decide⟩
theorem witness_Conditions_points :
    let r := { record7 .locked with steps := [{ sect := 511, points := [(1, .reverse)] }] }
    FirstFailing (recordPoints r) (fun x => site.detection x.1 = x.2.detection) (1, .reverse)
    ∧ ∀ x, x ∈ recordPoints (record7 .locked) → allLocked.detection x.1 = x.2.detection :=
  ⟨⟨[], [], rfl, nofun, by decide⟩, by decide⟩
theorem witness_Conditions_sections : FirstFailing (recordSections (record7 .locked))
      (fun x => (lockedSite (signalWith signalBody) (sectionOf .unknown) (record7 .locked)).occupancy x = .clear) 511
    ∧ ∀ x, x ∈ recordSections (record7 .locked) → allLocked.occupancy x = .clear :=
  ⟨⟨[], [], rfl, nofun, by decide⟩, by decide⟩
theorem witness_Conditions_flanks :
    let f : FlankRef := { group := 0, tied := 0, alternative := some 1, state := .held }
    FirstFailing [f] (Protected allLocked) f ∧ (∀ f, f ∈ (record7 .locked).flanks → Protected allLocked f)
    ∧ { f with state := .released }.state = .released :=
  ⟨⟨[], [], rfl, nofun, fun h => h.elim (fun h => nomatch h) fun h => absurd h.2 (by decide)⟩, nofun, rfl⟩
theorem witness_Conditions_handover : allLocked.lineUp 0 = true ∧ allLocked.remoteImage 3 = .clear
    ∧ (record7 .locked).handover = none
    ∧ allLocked.conditionFailure 0 { record7 .locked with
        handover := some { line := 0, offer := some 5, status := .offered } } = some (.notAccepted, 2)
    ∧ [RecordState.setting, .handoverWait, .clearing, .cleared, .timedRelease].all (fun st => decide
        ((site.withRecord (record7 st)).activeRecord (7 : Word).toNat = some (0, record7 st))) = true
    ∧ (site.withRecord (record7 .locked)).conditionFailure 0 (record7 .locked) = some (.lockLost, 2) := by decide
theorem witness_Conditions_references :
    let g : Group := { Group.unread with alternatives := [.remoteAlt 0 0, .localAlt 1 .pointsNormal] }
    let s := { site with fu := { site.fu with groups := [(0, g)] } }
    (s.fu.groups.find 0).map (·.alternatives) = some [.remoteAlt 0 0, .localAlt 1 .pointsNormal] := rfl
theorem witness_ReclearAndTimedRelease :
    [RecordState.locked, .inUse, .approachHold].all (fun st => decide
        ((site.withRecord (record7 st)).activeRecord (7 : Word).toNat = some (0, record7 st))) = true
    ∧ State.conditionFailure { site with
        rsv := [(0, record7 .locked)]
        es := [(2, { signalWith signalBody with lock := some (.route 0 .path) }),
               (511, { sectionOf .clear with lock := some (.route 0 .path) })] } 0 (record7 .locked) = none := by
  decide
theorem witness_QueriesChangeNothing : Receives site [.operating, .halted] ∧ 3 ≤ (3 : Byte).toNat
    ∧ site.line (0 : Byte).toNat = some line0 ∧ site.line (15 : Byte).toNat = none ∧ 15 < (16 : Byte).toNat := by
  decide
theorem witness_QueryClaim_noElement : (4 : Word).toNat ≤ 511 ∧ site.element (4 : Word).toNat = none
    ∧ (site.element (511 : Word).toNat).isSome := by decide
theorem witness_RouteTimersRelease : NothingStored site
    ∧ (withQueue (queued 1) site).rse.queue.find? (fun q => q.route == 100)
      = some { route := 100, hold := false, timer := some 0, reason := .occupied, element := none }
    ∧ [{ record7 .inUse with overlapStatus := .timing, overlapTimer := some 0 },
       { record7 .approachHold with holdTimer := some 0 },
       { record7 .timedRelease with holdTimer := some 0 }].all (fun r => decide
        ((site.withRecord r).routeRecord 0 = some r)) = true := by decide
theorem witness_RouteTimers_held : HeldBy (record7 .approachHold) 2 ∧ HeldBy (record7 .timedRelease) 511 :=
  ⟨.inl rfl, .inr (.inl ⟨_, List.mem_singleton.2 rfl, .inl rfl⟩)⟩

/-! Flank items. -/

theorem witness_Carries : Carries site 0 9 0 0 0 slot0
    ∧ Carries (site.withSlot { slot0 with rxSequence := some 0xFF }) 0 0 0 0 0 { slot0 with rxSequence := some 0xFF } := by
  decide
theorem witness_FlankAskMakesAClaim : site.line 0 = some line0 ∧ site.mode ≠ .halted ∧ line0.withdrawn = false
    ∧ NothingStored site ∧ line0.items[(0 : Byte).toNat]? = some (1, .pointsNormal)
    ∧ site.element 1 = some (pointsWith pointsBody) ∧ (pointsWith pointsBody).claim = none
    ∧ site.localAvailable (.neighbour 0) 1 .pointsNormal = true ∧ site.fu.claims.lowestFree 128 = some 0 := by
  decide
theorem witness_ItemsAreAnsweredOrTimed :
    ((site.withItem { state := .asked, ask := 5, askTimer := some 0, sweepHold := some 0 }).item 0 0).state = .asked
    ∧ ((site.withItem { state := .asked, ask := 5, askTimer := some 0, sweepHold := some 0 }).item 0 0).ask = 5
    ∧ ((site.withItem { state := .asked, ask := 5, askTimer := some 0, sweepHold := some 0 }).item 0 0).askTimer = some 0
    ∧ ((site.withItem { state := .asked, ask := 5, askTimer := some 0, sweepHold := some 0 }).item 0 0).sweepHold = some 0
    ∧ (0 : Byte).toNat < 8 ∧ line0.boundary = some 3 ∧ site.boundaryAt 3 = some boundary
    ∧ (0 : Byte).toNat < boundary.items.length := by decide

/-- Slot 0 in SETTING with one reference that waits for item 0 of line 0, before one at home. -/
def askedSite (alternatives : List Alternative) : State :=
  { site with
    rsv := [(0, { record7 .setting with
      flanks := [{ group := 0, tied := 0, alternative := some 1, state := .remotePending }] })]
    fu := { site.fu with
      items := [(0, { state := .asked, ask := 5, refs := [(0, 0)], askTimer := some 0 })]
      groups := [(0, { available := true, protectedElement := 1, position := .normal, alternatives := alternatives })] } }

theorem witness_Items_resolved : let s := askedSite [.remoteAlt 0 0, .localAlt 1 .pointsNormal]
    (s.item 0 0).refs = [(0, 0)] ∧ Ascending s.rsv ∧ NothingStored s ∧ (s.routeRecord 0).map (·.state) = some .setting
    ∧ s.chosen { group := 0, tied := 0, alternative := some 1, state := .remotePending } = some (.remoteAlt 0 0)
    ∧ s.search (.route 0) 0 2 = some (2, .localAlt 1 .pointsNormal)
    ∧ (askedSite [.remoteAlt 0 0]).search (.route 0) 0 2 = none ∧ Carries s 0 9 0 0 0 slot0
    ∧ (0, 0) ∈ (s.item 0 0).refs := by decide
theorem witness_Items_given_up : GivesUpAsk (askedSite [.remoteAlt 0 0]) (.askTimerExpiry 0 0) 0 0 0x6F
    ∧ GivesUpAsk (askedSite [.remoteAlt 0 0]) (.flankDenyReceived 0 9 0 0 5 0x6D) 0 0 0x6D :=
  ⟨⟨by decide, by decide, .inl (by decide)⟩,
    ⟨by decide, by decide, .inr ⟨0, 0, 9, 0, slot0, by decide, by decide⟩⟩⟩
theorem witness_Items_same_again :
    (askedSite [.remoteAlt 0 0, .remoteAlt 0 0]).search (.route 0) 0 2 = some (2, .remoteAlt 0 0)
    ∧ (askedSite []).line 0 = some line0 ∧ line0.slot = some 0 ∧ (askedSite []).slot 0 = some slot0
    ∧ ((askedSite []).routeRecord 0).bind (fun q => q.flanks[0]?)
      = some { group := 0, tied := 0, alternative := some 1, state := .remotePending } := by decide
theorem witness_Items_unresolved : line0.slot = some 0 ∧ slot0.transmit.length < 32 ∧ NoTriggerWaits site
    ∧ ((site.withItem { state := .asked, ask := 5, askTimer := some 0 }).item 0 0).refs = []
    ∧ (site.item 0 7).state ≠ .asked ∧ 8 ≤ (8 : Byte).toNat := by decide

def heldClaim : Claim :=
  { element := 1, demand := .pointsNormal, holders := [.neighbour 0 0 5 .granted], satisfied := true, move := false }
def claimSite : State :=
  { site.withElement 1 { pointsWith pointsBody with claim := some 127 } with
    fu := { site.fu with claims := [(127, heldClaim)] } }

theorem witness_FlankAsk_denied : NoTriggerWaits site ∧ line0.slot = some 0 ∧ slot0.transmit.length + 2 ≤ 32
    ∧ (site.inMode .halted).line 0 = some line0 ∧ Carries (site.inMode .halted) 0 9 0 0 0 slot0
    ∧ (site.withLine { line0 with withdrawn := true }).line 0 = some { line0 with withdrawn := true }
    ∧ Carries (site.withLine { line0 with withdrawn := true }) 0 9 0 0 0 slot0
    ∧ line0.items[(7 : Byte).toNat]? = none ∧ line0.items.length ≤ 8 ∧ site.claimOn 1 = none
    ∧ (site.withElement 1 { pointsWith pointsBody with withdrawn := true }).localAvailable (.neighbour 0) 1 .pointsNormal
      = false := by decide
/-- Every claim record is in use, none of them on points 1. -/
def fullSite : State :=
  { site with fu := { site.fu with claims := (List.range 128).map fun n => (n, { heldClaim with element := 0 }) } }

theorem witness_FlankAsk_tableFull : fullSite.fu.claims.lowestFree 128 = none ∧ fullSite.claimOn 1 = none
    ∧ fullSite.localAvailable (.neighbour 0) 1 .pointsNormal = true ∧ Carries fullSite 0 9 0 0 0 slot0 := by decide +kernel
/-- The claim on points 1 with one holder. -/
def heldBySite (h : Holder) (satisfied : Bool) : State :=
  { claimSite with fu := { claimSite.fu with claims := [(127, { heldClaim with holders := [h], satisfied := satisfied })] } }

theorem witness_FlankAsk_joins : (heldBySite (.neighbour 1 0 5 .granted) true).claimOn 1
      = some (127, { heldClaim with holders := [.neighbour 1 0 5 .granted], satisfied := true })
    ∧ neighbourHolder { heldClaim with holders := [.neighbour 1 0 5 .granted] } 0 0 = none
    ∧ (heldBySite (.neighbour 1 0 5 .granted) true).localAvailable (.neighbour 0) 1 .pointsNormal = true := by decide
theorem witness_FlankAsk_repeats :
    [(GrantState.granted, true), (.owed, false), (.denied, true), (.denied, false)].all (fun x => decide
      (Carries (heldBySite (.neighbour 0 0 5 x.1) x.2) 0 9 0 0 0 slot0 ∧ NoTriggerWaits (heldBySite (.neighbour 0 0 5 x.1) x.2)
        ∧ (heldBySite (.neighbour 0 0 5 x.1) x.2).claimOn 1
          = some (127, { heldClaim with holders := [.neighbour 0 0 5 x.1], satisfied := x.2 })
        ∧ neighbourHolder { heldClaim with holders := [.neighbour 0 0 5 x.1] } 0 0 = some (5, x.1)
        ∧ (heldBySite (.neighbour 0 0 5 x.1) x.2).localAvailable (.neighbour 0) 1 .pointsNormal = true)) = true
    ∧ ({ heldBySite (.neighbour 0 0 5 .denied) false with es := [(1,
        { pointsWith pointsBody with claim := some 127, withdrawn := true })] } : State).localAvailable (.neighbour 0) 1
          .pointsNormal = false := by decide
theorem test_flankAsk_denied_again_is_granted :
    ((after (.flankAskReceived 0 9 0 0 6) (heldBySite (.neighbour 0 0 5 .denied) true)).slot 0).map (·.transmit)
      = some [{ line := 0, payload := .flankGrant 0 6 true }, { line := 0, payload := .lineImage }] := by decide

theorem witness_FlankFreeRemovesTheHolder : Carries claimSite 0 9 0 0 0 slot0 ∧ NothingStored claimSite
    ∧ claimSite.claimOn 1 = some (127, heldClaim) ∧ heldClaim.element = 1
    ∧ neighbourHolder heldClaim 0 (0 : Byte).toNat = some (5, .granted) := by decide

/-! Boundary lines. -/

def pendingOffer : InOffer := { number := 5, accepted := false, passed := false, deadline := some 0 }
def acceptedOffer : InOffer := { number := 5, accepted := true, passed := false, deadline := none }

theorem witness_LineRequestsAct : Receives site [.operating] ∧ (0 : Byte).toNat ≤ 15
    ∧ site.line (0 : Byte).toNat = some line0 ∧ policyOf 2 = some .autoDecline ∧ 3 ≤ (3 : Byte).toNat
    ∧ (site.withLine { line0 with inOffer := some pendingOffer, token := .rest .inward }).line (0 : Byte).toNat
      = some { line0 with inOffer := some pendingOffer, token := .rest .inward }
    ∧ (site.withLine { line0 with inOffer := some pendingOffer, token := .rest .inward }).acceptanceFailure
      { line0 with inOffer := some pendingOffer, token := .rest .inward } = none := by decide

def askingLine : Line :=
  { line0 with token := .asking .unset, ask := some { slot := 0, word := 0xF010, deadline := some 0 } }

theorem witness_DirectionIsYielded : Carries site 0 9 0 0 0 slot0 ∧ NoTriggerWaits site ∧ line0.token = .rest .unset
    ∧ Direction.unset ≠ .outward ∧ line0.ask = none ∧ line0.slot = some 0 ∧ slot0.transmit.length < 31
    ∧ Carries (site.withLine askingLine) 0 9 0 0 0 slot0 ∧ (site.withLine askingLine).line 0 = some askingLine
    ∧ askingLine.token = .asking .unset := by decide
theorem witness_Direction_out : [{ line0 with withdrawn := true }, { line0 with token := .rest .outward },
      { line0 with token := .rest .outward, transit := true }, askingLine].all (fun r => decide
        (Carries (site.withLine r) 0 9 0 0 0 slot0 ∧ NoTriggerWaits (site.withLine r) ∧ NothingStored (site.withLine r)
          ∧ (site.withLine r).line 0 = some r ∧ r.slot = some 0)) = true
    ∧ (0xF010 : Word).toNat < (0xF011 : Word).toNat ∧ (0xF00F : Word).toNat < (0xF010 : Word).toNat
    ∧ site.routeOnLine line0 = false ∧ site.occupancy line0.border = .clear ∧ (line0.boundary.map site.remoteImage) = some .clear
    ∧ (site.withRecord { record7 .cleared with definition := { definition7 with exit := 3 } }).routeOnLine line0 = true := by
  decide
def outAskingLine : Line := { askingLine with token := .asking .outward, conflict := true }

theorem witness_Direction_lost : [outAskingLine, { outAskingLine with transit := true },
      { outAskingLine with outOffer := some { number := 5, slot := some 1, state := .accepted, deadline := none } }].all (fun r => decide
        (let s := { site.withLine r with rsv := [(0, record7 .handoverWait)] }
         Carries s 0 9 0 0 0 slot0 ∧ NothingStored s ∧ Ascending s.rsv ∧ s.line 0 = some r ∧ r.slot = some 0
          ∧ r.withdrawn = false ∧ r.token = .asking .outward ∧ r.ask = askingLine.ask
          ∧ (r.outOffer.all fun o => o.slot != some 0) = true)) = true
    ∧ ((after (.dirAskReceived 0 9 0 0xF00F) { site.withLine outAskingLine with rsv := [(0, record7 .handoverWait)] }).slot 0).map
        (·.transmit.length) = some 2
    ∧ (site.withElement 0 (sectionOf .occupied)).occupancy line0.border ≠ .clear
    ∧ (line0.boundary.map (site.withElement 3 { boundaryElement with body := .boundary { boundary with image := .unknown } }).remoteImage)
      = some .unknown
    ∧ (site.withRecord { record7 .cleared with definition := { definition7 with exit := 3 } }).rsv.any
        (fun p => p.1 != 1 && line0.boundary == some p.2.definition.exit) = true := by decide
theorem witness_FailedAskGivesTheTokenBack : (site.withLine askingLine).line 0 = some askingLine
    ∧ askingLine.outOffer = none ∧ NothingStored (site.withLine askingLine)
    ∧ askingLine.ask = some { slot := 0, word := 0xF010, deadline := some 0 } := by decide
theorem witness_FailedAsk_route : let s := { site.withLine askingLine with rsv := [(0, record7 .handoverWait)] }
    s.line 0 = some askingLine ∧ NothingStored s ∧ Carries s 0 9 0 0 0 slot0
    ∧ s.routeRecord 0 = some (record7 .handoverWait) ∧ (record7 .handoverWait).definition.entry = 2 := by decide
theorem witness_FailedAsk_notAsking : line0.token = .rest .unset ∧ Carries site 0 9 0 0 0 slot0 ∧ NoTriggerWaits site := by
  decide
theorem witness_IncomingOfferComes : Carries (site.withLine { line0 with token := .rest .inward }) 0 9 0 0 0 slot0
    ∧ NoTriggerWaits (site.withLine { line0 with token := .rest .inward })
    ∧ (site.withLine { line0 with token := .rest .inward }).acceptanceFailure { line0 with token := .rest .inward } = none
    ∧ ({ line0 with policy := .askHost } : Line).policy = .askHost := by decide
theorem witness_IncomingOfferGoes : [pendingOffer, acceptedOffer].all (fun o => decide
      (Carries (site.withLine { line0 with inOffer := some o }) 0 9 0 0 0 slot0
        ∧ (site.withLine { line0 with inOffer := some o }).line 0 = some { line0 with inOffer := some o }
        ∧ NothingStored (site.withLine { line0 with inOffer := some o })
        ∧ NoTriggerWaits (site.withLine { line0 with inOffer := some o }))) = true
    ∧ site.occupancy line0.border ≠ .occupied ∧ pendingOffer.deadline = some 0 := by decide

def offeringLine : Line :=
  { line0 with token := .rest .outward, nextOffer := 6,
               outOffer := some { number := 5, slot := some 0, state := .offered, deadline := some 0 } }
def offeringSite : State :=
  { site.withLine offeringLine with rsv := [(0, { record7 .handoverWait with
      handover := some { line := 0, offer := some 5, status := .offered } })] }

theorem witness_IncomingOffer_declined :
    [{ line0 with withdrawn := true }, { line0 with inOffer := some pendingOffer }, { line0 with inOffer := some acceptedOffer },
     line0, { line0 with token := .rest .inward, inOffer := some acceptedOffer },
     { line0 with token := .rest .inward, policy := .autoDecline }].all (fun r => decide
        (Carries (site.withLine r) 0 9 0 0 0 slot0 ∧ NoTriggerWaits (site.withLine r) ∧ (site.withLine r).line 0 = some r
          ∧ r.slot = some 0
          ∧ ((site.withLine r).acceptanceFailure r ≠ none ∨ r.withdrawn ∨ r.inOffer.isSome ∨ r.policy = .autoDecline))) = true
    ∧ slot0.transmit.length < 32 := by decide
theorem test_offer_declines : (after (.offerReceived 0 9 0 5) site).slot 0
      = some { slot0 with silence := some 6, rxSequence := some 9, goodRun := 1,
                          transmit := [{ line := 0, payload := .decline 5 0x64 }] } := by decide
theorem witness_IncomingOffer_passed :
    let s := { site.withLine { line0 with inOffer := some acceptedOffer } with es := [(0, sectionOf .occupied)] }
    Carries s 0 9 0 0 0 slot0 ∧ NothingStored s ∧ acceptedOffer.accepted = true ∧ s.occupancy 0 = .occupied := by decide

theorem witness_OutgoingOfferIsAnswered : offeringSite.line 0 = some offeringLine
    ∧ Carries offeringSite 0 9 0 0 0 slot0 ∧ NoTriggerWaits offeringSite ∧ NothingStored offeringSite
    ∧ offeringLine.ask = none ∧ (offeringSite.routeRecord 0).map (·.state) = some .handoverWait := by decide
theorem witness_OutgoingOffer_route : (offeringSite.routeRecord 0).any (fun q => q.handover.isSome) = true
    ∧ offeringLine.slot = some 0 ∧ offeringSite.slot 0 = some slot0 ∧ slot0.link = .up ∧ slot0.transmit.length < 32
    ∧ offeringLine.outOffer.all (fun o => o.number == 5 && o.deadline == some 0 && o.slot == some 0) = true := by decide
theorem test_strayAccept_is_withdrawn : ((after (.acceptReceived 0 9 0 9) offeringSite).slot 0).map (·.transmit)
      = some [{ line := 0, payload := .withdraw 9 }] := by decide
theorem witness_LineImageIsWritten : Carries site 0 9 0 0 0 slot0 ∧ site.line 0 = some line0
    ∧ line0.withdrawn = false ∧ line0.boundary = some 3 ∧ site.boundaryAt 3 = some boundary ∧ NothingStored site := by
  decide
theorem witness_LineImage_items : boundary.items.length = 8 ∧ line0.slot = some 0 ∧ slot0.transmit.length + 8 ≤ 32
    ∧ [(.asked : ItemState), .granted, .stale, .idle, .freeOwed].all (fun st => decide
        (((site.withItem { state := st }).item 0 0).state = st)) = true
    ∧ (site.item 0 7).state = .idle ∧ (site.item 0 7).sweepHold = none ∧ line0.conflict = false
    ∧ Carries (site.withLine { line0 with token := .rest .outward }) 0 9 0 0 0 slot0 := by decide
theorem test_lineImage_sweeps :
    ((after (.lineImageReceived 0 9 0 0 0 [1, 0, 0, 0, 0, 0, 0, 0]) site).slot 0).map (·.transmit)
      = some [{ line := 0, payload := .flankFree 0 0 true }] := by decide
theorem witness_LineResetClearsTheLine : (site.withLine { line0 with resetTimer := some 0 }).line 0
      = some { line0 with resetTimer := some 0 }
    ∧ NothingStored (site.withLine { line0 with resetTimer := some 0 }) := by decide

/-! Links. -/

def offSlot : LinkSlot := { port := some 0 }

theorem witness_LinkControlActs : FourSlots site ∧ site.cp.receiver = .receiving ∧ (0 : Byte).toNat ≤ 3
    ∧ (3 : Byte).toNat ≤ 3 ∧ site.slot (3 : Byte).toNat = some {} ∧ site.slot (0 : Byte).toNat = some slot0
    ∧ (site.withSlot offSlot).slot (0 : Byte).toNat = some offSlot ∧ offSlot.link = .off ∧ offSlot.enabled = false
    ∧ offSlot.port.isSome ∧ 3 < (0xFE : Byte).toNat ∧ (0xFE : Byte) ≠ 0xFF ∧ NothingStored site := by decide
theorem witness_LinkControl_map : NoTriggerWaits site ∧ 3 < (4 : Byte).toNat ∧ (2 : Byte).toNat ≤ 3 ∧ (2 : Byte) ≠ 0xFF
    ∧ slot0.link ≠ .off ∧ site.slot 0 = some slot0 ∧ slot0.port = some (0 : Byte).toNat
    ∧ ({ enabled := true } : LinkSlot).enabled = true ∧ ({ enabled := true } : LinkSlot).link = .off := by decide
theorem witness_LinkControl_freePort (n : Nat) (x : LinkSlot) (_ : n ≠ 1) (h : site.slot n = some x) :
    x.port ≠ some (2 : Byte).toNat := by
  simp only [site, State.slot, Table.find] at h
  repeat' split at h
  all_goals first | cases h | skip
  all_goals decide

def holdoffSlot : LinkSlot := { slot0 with link := .holdoff, holdoff := some 0 }
def identSlot : LinkSlot := { slot0 with link := .ident, identTimer := some 0, sendInterval := some 0 }
def huntSlot : LinkSlot := { slot0 with link := .hunt, sync := 3 }

theorem witness_LinkTimersExpire : [holdoffSlot, identSlot, slot0].all (fun k => decide
      (FourSlots (site.withSlot k) ∧ (site.withSlot k).slot 0 = some k ∧ NothingStored (site.withSlot k))) = true
    ∧ slot0.silence = some 0 ∧ slot0.link = .up ∧ site.mode = .operating := by decide
theorem witness_LinkTimers_lines : slot0.lines = [0] ∧ offeringSite.slot 0 = some slot0 ∧ NothingStored offeringSite
    ∧ offeringSite.line 0 = some offeringLine ∧ offeringLine.slot = some 0 ∧ offeringLine.boundary = some 3
    ∧ offeringSite.boundaryAt 3 = some boundary ∧ (offeringSite.routeRecord 0).map (·.route) = some 7
    ∧ ((site.withLine askingLine).line 0).map (·.token) = some (.asking .unset)
    ∧ ((site.withItem { state := .asked, ask := 5, askTimer := some 3 }).item 0 0).state = .asked := by decide
theorem witness_LinkTimers_routes : OnlyRecordOf offeringSite 0 { record7 .handoverWait with
    handover := some { line := 0, offer := some 5, status := .offered } } := onlyRecord _ _ rfl
def handedOver (st : RecordState) : RouteRecord :=
  { record7 st with handover := some { line := 0, offer := some 5, status := .accepted } }

theorem witness_LinkTimers_cleared : RoutesAgree (site.withRecord (handedOver .cleared)) := by
  refine ⟨by decide, fun slot r f h hf _ => ?_, fun l r h => ?_, fun l r h => ?_, fun e b h hb => ?_⟩
  · exact nomatch (by decide : ∀ p ∈ [(0, handedOver .cleared)], p.2.flanks = []) _ (Table.mem_of_find h) ▸ hf
  · have := (by decide : ∀ p ∈ site.bu, p.2 = line0) _ (Table.mem_of_find h)
    subst this
    exact ⟨⟨nofun, nofun⟩, nofun⟩
  · have := (by decide : ∀ p ∈ site.bu, p.2 = line0) _ (Table.mem_of_find h)
    subst this
    exact ⟨nofun, nofun⟩
  · have stops : ∀ p ∈ site.es, (match p.2.body with | .signal b => b.demanded | _ => Aspect.stop) = .stop := by decide
    rw [State.signalAt] at h
    split at h
    · next r hr =>
      split at h
      · next x hx =>
        cases h
        have hs := stops _ (Table.mem_of_find hr)
        simp only [hx, hb] at hs
        cases hs
      · cases h
    · cases h
theorem witness_ImagesAndTransmitter : FourSlots site ∧ site.slot 0 = some slot0 ∧ slot0.image = some 0
    ∧ ({ slot0 with lines := [] } : LinkSlot).lines = []
    ∧ ({ slot0 with keepAlive := true } : LinkSlot).keepAlive = true
    ∧ (site.withSlot { slot0 with transmit := [{ line := 0, payload := .lineImage }] }).slot 0
      = some { slot0 with transmit := [{ line := 0, payload := .lineImage }] } := by decide
theorem witness_Images_room : slot0.lines ≠ [] ∧ slot0.transmit.length + slot0.lines.length ≤ 32 ∧ 0 ∈ slot0.lines
    ∧ site.line 0 = some line0 ∧ line0.slot = some 0 ∧ slot0.keepAlive = false ∧ slot0.transmit = [] := by decide
theorem witness_HuntCountsSync : (site.withSlot huntSlot).slotOfPort 0 = some 0
    ∧ (site.withSlot huntSlot).slot 0 = some huntSlot ∧ huntSlot.read (.bits 0x13C) = .sync
    ∧ huntSlot.read .undecodable ≠ .sync ∧ huntSlot.sync + 1 = 4
    ∧ ({ huntSlot with sync := 2 } : LinkSlot).sync + 1 ≠ 4 := by decide
theorem witness_idleChar : huntSlot.port.isSome = true ∧ huntSlot.link = .hunt ∧ slot0.link = .up
    ∧ holdoffSlot.link = .holdoff ∧ ({} : LinkSlot).port = none := by decide
theorem witness_LinkErrorsAreCounted : site.slotOfPort 0 = some 0 ∧ site.slot 0 = some slot0 ∧ FourSlots site
    ∧ NoTriggerWaits site ∧ slot0.level + 1 < max 1 (min 15 slot0.threshold.toNat)
    ∧ slot0.read (.bits 0x041) = .data 0x41
    ∧ [0, 0] ≠ Word.bytes (crc16 [0x04, 0, 0, 0])
    ∧ [LinkChar.bits 0x15B, .bits 0x004, .bits 0, .bits 0, .bits 0, .bits 0, .bits 0, .bits 0x15D].map slot0.read
      = [.openChar, .data 0x04, .data 0, .data 0, .data 0, .data 0, .data 0, .close]
    ∧ (site.withSlot { slot0 with rxSequence := some 9 }).slot 0 = some { slot0 with rxSequence := some 9 }
    ∧ (slot0.lines[(0 : Byte).toNat]?).isSome := by decide +kernel
theorem witness_LinkErrors_drop : (site.withSlot { slot0 with level := 7 }).slot 0 = some { slot0 with level := 7 }
    ∧ (site.withSlot { slot0 with level := 7 }).slotOfPort 0 = some 0
    ∧ max 1 (min 15 slot0.threshold.toNat) ≤ 7 + 1 := by decide
theorem witness_LinkErrors_discarded : DiscardedFor [] .length none ∧ DiscardedFor (List.replicate 17 0) .length none
    ∧ DiscardedFor [0x04, 5, 0, 1, 0, 0] .length none ∧ DiscardedFor [0x04, 5, 0, 0, 0, 0] .check none
    ∧ DiscardedFor ([0x0F, 5, 0, 0] ++ Word.bytes (crc16 [0x0F, 5, 0, 0])) .unexpected (some 5)
    ∧ DiscardedFor ([0x0E, 5, 0, 0] ++ Word.bytes (crc16 [0x0E, 5, 0, 0])) .length (some 5) :=
  ⟨.inl (by decide), .inl ⟨rfl, rfl, .inr (.inl (by decide))⟩, .inl ⟨rfl, rfl, .inr (.inr ⟨1, by decide, by decide⟩)⟩,
    .inr ⟨_, _, _, _, [], _, rfl, rfl, by decide, rfl, .inl ⟨rfl, rfl, by decide +kernel⟩⟩,
    .inr ⟨_, _, _, _, [], _, rfl, rfl, by decide, rfl, .inr ⟨rfl, rfl, .inl ⟨rfl, by decide⟩⟩⟩,
    .inr ⟨_, _, _, _, [], _, rfl, rfl, by decide, rfl, .inr ⟨rfl, rfl, .inr ⟨rfl, by decide, by decide, by decide⟩⟩⟩⟩
theorem witness_LinkErrors_lines : lineTelegram (.lineImageReceived 0 20 0 0 0 [0, 0, 0, 0, 0, 0, 0, 0]) = some (0, 20, 0)
    ∧ lineTelegram (.dirRefuseReceived 0 20 1 0) = some (0, 20, 1) ∧ slot0.lines[(1 : Byte).toNat]? = none
    ∧ slot0.lines[(0 : Byte).toNat]? = some 0 ∧ (20 : Byte) ≠ 9 ∧ (20 : Byte) ≠ 9 + 1
    ∧ (site.withSlot { slot0 with rxSequence := some 9 }).slotOfPort 0 = some 0
    ∧ (site.withSlot { slot0 with rxSequence := some 9 }).line 0 = some line0 ∧ line0.withdrawn = false
    ∧ ({ site.withSlot { slot0 with rxSequence := some 9 } with bu := [(0, askingLine)] } : State).line 0 = some askingLine
    ∧ askingLine.ask.isSome := by decide
theorem witness_IdentIsJudged : (site.withSlot identSlot).slotOfPort 0 = some 0
    ∧ (site.withSlot identSlot).slot 0 = some identSlot ∧ NoTriggerWaits (site.withSlot identSlot)
    ∧ identSlot.expected = 0x0020 ∧ (site.withSlot identSlot).areaId = 0x0010
    ∧ (1 : Byte).toNat = identSlot.lines.length ∧ (1 : Byte).getLsbD 1 = false ∧ (3 : Byte).getLsbD 1 = true
    ∧ (0x0021 : Word) ≠ identSlot.expected := by decide
def owedOffer : OutOffer := { number := 5, slot := none, state := .withdrawOwed, deadline := none }
def answeredOffer : OutOffer := { number := 5, slot := some 0, state := .accepted, deadline := none }

theorem witness_Ident_entersUp : NothingStored (site.withSlot identSlot) ∧ identSlot.lines.length ≤ 8
    ∧ identSlot.lines = [0] ∧ (site.withSlot identSlot).line 0 = some line0 ∧ line0.slot = some 0
    ∧ (site.withSlot identSlot).rsv = [] ∧ (2 : Byte).getLsbD 1 = true
    ∧ [{ line0 with token := .rest .inward, inOffer := some acceptedOffer },
       { line0 with token := .rest .outward, outOffer := some owedOffer },
       { line0 with token := .rest .outward, outOffer := some answeredOffer }].all (fun r => decide
        (({ site.withSlot identSlot with bu := [(0, r)] } : State).line 0 = some r)) = true := by decide
theorem witness_Ident_lapses :
    let s := { site.withSlot identSlot with
      bu := [(0, { line0 with token := .rest .outward, outOffer := some answeredOffer })] }
    [handedOver .cleared, handedOver .locked, handedOver .approachHold, handedOver .timedRelease].all (fun q => decide
      (({ s with rsv := [(0, q)] } : State).routeRecord 0 = some q ∧ q.steps ≠ [] ∧ q.handover.isSome)) = true
    ∧ identSlot.lines = [0] ∧ answeredOffer.state = .accepted ∧ answeredOffer.slot = some 0
    ∧ (identSlot.peerRestart || (3 : Byte).getLsbD 0) = true := by decide
/-- A record in TIMED_RELEASE keeps its handover context at a peer restart, and one in APPROACH_HOLD has it written. -/
theorem test_lapsedRecord : (handedOver .timedRelease).lapsed 5 = handedOver .timedRelease
    ∧ ((handedOver .approachHold).lapsed 5).handover.map (fun h => (h.status, h.offer)) = some (.offered, some 5) := by
  decide
theorem witness_Ident_drops : site.slotOfPort 0 = some 0 ∧ slot0.link = .up ∧ (0 : Byte).getLsbD 1 = false
    ∧ NoTriggerWaits site ∧ (0x0011 : Word) ≠ (site.withSlot identSlot).areaId ∧ (2 : Byte) ≠ 1
    ∧ (2 : Byte).toNat ≠ identSlot.lines.length := by decide

/-! Replacement: slot 0 has a boundary route from signal 2 over section 511 and points 4 to line 0, with references by claims
on section 100, points 1 and signal 5 and by item 0 of the line. -/

def guardedDefinition : Definition :=
  { definition7 with
    exit := 3, line := some 0, beyond := none
    path := [{ element := 511, position := none }, { element := 4, position := some .normal }] }
def guardedRecord (st : RecordState) : RouteRecord :=
  { record7 st with
    definition := guardedDefinition, steps := [{ sect := 511, points := [(4, .normal)] }]
    flanks := (List.range 4).map fun i => { group := i, tied := 1, alternative := some 1, state := .held }
    handover := some { line := 0, offer := some 5, status := .accepted } }
def ownClaim (e : Nat) (d : Demand) : Claim :=
  { element := e, demand := d, holders := [.route 0 1], satisfied := true, move := false }
def groupOf (a : Alternative) : Group :=
  { available := true, protectedElement := 4, position := .normal, alternatives := [a] }
def guarded (st : RecordState) (aspect : Shown) : State :=
  { site with
    es := [(0, sectionOf .clear), (1, { pointsWith pointsBody with claim := some 1 }),
           (2, { signalWith { signalBody with demanded := .proceed, shown := aspect, proven := true } with
             lock := some (.route 0 .path) }),
           (3, { boundaryElement with body := .boundary { boundary with items := .satisfied :: List.replicate 7 .unknown } }),
           (4, { pointsWith pointsBody with lock := some (.route 0 .path) }),
           (5, { signalWith signalBody with claim := some 2 }), (100, { sectionOf .clear with claim := some 0 }),
           (511, { sectionOf .clear with lock := some (.route 0 .path) })]
    fi := { site.fi with map := [mapEntry 0x0100 0xFF00 0 8, mapEntry 0x0200 0xFF00 511 1, mapEntry 0x0300 0xFF00 100 1] }
    rsv := [(0, guardedRecord st)]
    fu :=
      { groups := [(0, groupOf (.localAlt 100 .sectionClear)), (1, groupOf (.localAlt 1 .pointsNormal)),
                   (2, groupOf (.localAlt 5 .signalStop)), (3, groupOf (.remoteAlt 0 0))]
        claims := [(0, ownClaim 100 .sectionClear), (1, ownClaim 1 .pointsNormal), (2, ownClaim 5 .signalStop)]
        items := [(0, { state := .granted, refs := [(0, 3)] })], nextAsk := [] } }

theorem witness_StandsClear : StandsClear (guarded .cleared .proceed) 0 (guardedRecord .cleared)
    ∧ StandsClear (guarded .clearing .stop) 0 (guardedRecord .clearing)
    ∧ StandsClear (guarded .clearing .proceed) 0 (guardedRecord .clearing) :=
  ⟨⟨by decide +kernel, .inr rfl, by decide +kernel, nofun⟩, ⟨by decide +kernel, .inl rfl, by decide +kernel, nofun⟩,
    ⟨by decide +kernel, .inl rfl, by decide +kernel, fun _ _ => by decide⟩⟩
theorem holdsClaim_of (st : RecordState) (aspect : Shown) (i e n : Nat) (d : Demand) (hi : i < 4)
    (hs : (guarded st aspect).chosen { group := i, tied := 1, alternative := some 1, state := .held } = some (.localAlt e d))
    (hc : (guarded st aspect).claimOn e = some (n, ownClaim e d)) :
    HoldsClaim (guarded st aspect) 0 (guardedRecord st) e (ownClaim e d) :=
  ⟨⟨d, _, List.mem_map.2 ⟨i, List.mem_range.2 hi, rfl⟩, rfl, hs⟩, ⟨n, hc⟩, 1, List.mem_singleton.2 rfl⟩
theorem witness_HoldsClaim (st : RecordState) (aspect : Shown) :
    HoldsClaim (guarded st aspect) 0 (guardedRecord st) 100 (ownClaim 100 .sectionClear)
    ∧ HoldsClaim (guarded st aspect) 0 (guardedRecord st) 1 (ownClaim 1 .pointsNormal)
    ∧ HoldsClaim (guarded st aspect) 0 (guardedRecord st) 5 (ownClaim 5 .signalStop) :=
  ⟨holdsClaim_of st aspect 0 100 0 _ (by decide) rfl rfl, holdsClaim_of st aspect 1 1 1 _ (by decide) rfl rfl,
    holdsClaim_of st aspect 2 5 2 _ (by decide) rfl rfl⟩
theorem witness_HoldsBy (st : RecordState) (aspect : Shown) :
    HoldsBy (guarded st aspect) (guardedRecord st) (.remoteAlt 0 0) :=
  ⟨_, List.mem_map.2 ⟨3, List.mem_range.2 (by decide), rfl⟩, rfl, rfl⟩
theorem witness_Replaced_claimsAgree : ClaimsAgree (guarded .cleared .proceed) := by
  refine ⟨fun n c h => ?_, fun e x n h hx => ?_⟩
  · have : ∀ p ∈ (guarded .cleared .proceed).fu.claims, p.2.holders ≠ [] := by decide
    exact this _ (Table.mem_of_find h)
  · have : ∀ p ∈ (guarded .cleared .proceed).es, p.2.claim = none
        ∨ (p.2.claim.bind (guarded .cleared .proceed).claimRecord).map (·.element) = some p.1 := by decide
    rcases this _ (Table.mem_of_find h) with h | h
    · exact nomatch hx.symm.trans h
    · simp only [hx, Option.bind_some] at h
      obtain ⟨c, hc, he⟩ := Option.map_eq_some_iff.1 h
      exact ⟨c, hc, he⟩
theorem witness_Replaced_statuses : let s := guarded .cleared .proceed
    NothingStored s ∧ Ascending s.rsv ∧ Selects s 0x12 0x0104 2 (fieldCheck 0x12 0x0104 2) 4
    ∧ Selects s 0x12 0x0101 2 (fieldCheck 0x12 0x0101 2) 1 ∧ Selects s 0x11 0x0200 2 (fieldCheck 0x11 0x0200 2) 511
    ∧ Selects s 0x11 0x0300 1 (fieldCheck 0x11 0x0300 1) 100 ∧ Selects s 0x13 0x0105 1 (fieldCheck 0x13 0x0105 1) 5 := by
  decide +kernel
theorem witness_Replaced_roles : let s := guarded .cleared .proceed
    (4, .normal) ∈ recordPoints (guardedRecord .cleared) ∧ 511 ∈ recordSections (guardedRecord .cleared)
    ∧ guardedDefinition.firstSection = 511 ∧ 100 ∉ recordSections (guardedRecord .cleared)
    ∧ (1, .normal) ∉ recordPoints (guardedRecord .cleared) ∧ (1, .reverse) ∉ recordPoints (guardedRecord .cleared)
    ∧ s.detection 1 = .normal ∧ s.occupancy 100 = .clear ∧ s.shown 5 = .stop ∧ 5 ≠ guardedDefinition.entry
    ∧ Detection.reverse ≠ Position.normal.detection ∧ Occupancy.unknown ≠ .clear := by decide +kernel
theorem test_replaced_flankLost : (after (.fieldStatusTelegram 0x11 0x0300 1 (fieldCheck 0x11 0x0300 1))
      (guarded .cleared .proceed)).rsv.map (fun p => (p.2.state, p.2.replaced)) = [(.locked, some (.flankLost, 4))] := by
  decide +kernel
theorem witness_Replaced_expiries : let s := guarded .cleared .proceed
    (s.pointsAt 4).map (·.supervision) = some (some 0) ∧ (s.pointsAt 1).map (·.supervision) = some (some 0)
    ∧ (s.sectionAt 511).map (·.supervision) = some (some 0) ∧ (s.sectionAt 100).map (·.supervision) = some (some 0)
    ∧ (s.signalAt 5).map (·.supervision) = some (some 0)
    ∧ (s.signalAt 2).map (fun b => (b.supervision, b.proven, b.shown)) = some (some 0, true, .proceed) := by decide +kernel
theorem witness_Replaced_withdrawal :
    FirstFailing (recordElements (guardedRecord .cleared)) (fun y => y.1 / 16 + 1 ≠ 32) (511, .path)
    ∧ (∀ y, y ∈ recordElements (guardedRecord .cleared) → y.1 / 16 + 1 ≠ 7) ∧ 100 / 16 + 1 = 7
    ∧ (guarded .cleared .proceed).isWithdrawn 100 = false ∧ (guarded .cleared .proceed).line 0 = some line0
    ∧ line0.boundary = some guardedDefinition.exit ∧ (guardedRecord .cleared).handover.isSome = true :=
  ⟨⟨[(2, .path)], [(4, .path)], rfl, by decide, by decide⟩, by decide, rfl, by decide +kernel, by decide, rfl, rfl⟩
theorem witness_Replaced_withdrawal_scan (g : Nat) (h : g ∈ [7, 32, 34]) :
    StandsClear { guarded .cleared .proceed with ts := (withdrawing g).ts } 0 (guardedRecord .cleared) := by
  simp only [List.mem_cons, List.not_mem_nil, or_false] at h
  rcases h with rfl | rfl | rfl <;> exact ⟨by decide +kernel, .inr rfl, by decide +kernel, nofun⟩
theorem witness_Replaced_image : Carries (guarded .cleared .proceed) 0 9 0 0 0 slot0
    ∧ (guarded .cleared .proceed).line 0 = some line0 ∧ guardedDefinition.exit = 3 ∧ (1 : Byte) ≠ 0
    ∧ ([2, 0, 0, 0, 0, 0, 0, 0] : List Byte)[0]? = some 2 ∧ (2 : Byte) ≠ 1 := by decide +kernel

theorem witness_Replaced_linkDown : RoutesAgree (guarded .cleared .proceed) := by
  have lines : ∀ p ∈ (guarded .cleared .proceed).bu, p.2 = line0 := by decide
  refine ⟨by decide, fun slot r f h hf hs => ?_, fun l r h => ?_, fun l r h => ?_, fun e b h hb => ?_⟩
  · have : ∀ p ∈ (guarded .cleared .proceed).rsv, ∀ f ∈ p.2.flanks, f.state = .held := by decide +kernel
    have := this _ (Table.mem_of_find h) f hf
    rcases hs with hs | hs <;> rw [this] at hs <;> cases hs
  · cases (lines _ (Table.mem_of_find h) : r = line0)
    exact ⟨⟨nofun, nofun⟩, nofun⟩
  · cases (lines _ (Table.mem_of_find h) : r = line0)
    exact ⟨nofun, nofun⟩
  · have stops : ∀ p ∈ (guarded .cleared .proceed).es, p.1 = 2
        ∨ (match p.2.body with | .signal b => b.demanded | _ => Aspect.stop) = .stop := by decide +kernel
    rw [State.signalAt] at h
    split at h
    · next r hr =>
      split at h
      · next x hx =>
        cases h
        rcases stops _ (Table.mem_of_find hr) with he | hs
        · exact ⟨0, _, rfl, he.symm, .inr rfl⟩
        · simp only [hx, hb] at hs
          cases hs
      · cases h
    · cases h
theorem witness_Replaced_linkDown_line : (guarded .cleared .proceed).slot 0 = some slot0 ∧ slot0.silence = some 0
    ∧ slot0.lines = [0] ∧ line0.slot = some 0
    ∧ (guardedRecord .cleared).handover = some { line := 0, offer := some 5, status := .accepted } := by decide

/-! The invariants of operation, on a state with a claim, a route in CLEARED with its signal at PROCEED, and an ask. -/

theorem witness_ClaimsAgree : ClaimsAgree claimSite ∧ step claimSite = .next claimSite.tick := by
  refine ⟨⟨fun n c h => ?_, fun e x n h hx => ?_⟩, rfl⟩
  · have : ∀ p ∈ claimSite.fu.claims, p.2.holders ≠ [] := by decide
    exact this _ (Table.mem_of_find h)
  · have : ∀ p ∈ claimSite.es, p.2.claim = none ∨ p.2.claim = some 127 ∧ p.1 = 1 := by decide
    rcases this _ (Table.mem_of_find h) with h | ⟨h, he⟩
    · exact nomatch hx.symm.trans h
    · cases hx.symm.trans h
      exact ⟨heldClaim, rfl, he.symm⟩

def clearedSite : State :=
  { site.withElement 2 { signalWith { signalBody with demanded := .proceed } with lock := some (.route 1 .path) } with
    rsv := [(0, { record7 .handoverWait with handover := some { line := 0, offer := none, status := .direction } }),
            (1, { record7 .cleared with flanks := [{ group := 0, tied := 0, alternative := some 1, state := .held }] })]
    bu := [(0, askingLine)] }

theorem witness_RoutesAgree_lines : TokensAgree clearedSite ∧ HandoversAgree clearedSite := by
  refine ⟨fun l r h => ?_, fun l r h => ?_⟩
  all_goals
    simp [clearedSite, State.line, Table.find] at h
    obtain ⟨hl, hr⟩ := h
    subst hl hr
  · exact ⟨⟨fun _ => ⟨.unset, rfl⟩, fun _ => rfl⟩, nofun⟩
  · refine ⟨fun a ha => ?_, nofun⟩
    cases ha
    exact ⟨_, _, rfl, rfl, rfl, rfl⟩
theorem witness_RoutesAgree_records : Ascending clearedSite.rsv ∧ WaitingOnlyInSetting clearedSite
    ∧ ProceedIsHeld clearedSite := by
  refine ⟨by decide, fun slot r f h hf hs => ?_, fun e b h hb => ?_⟩
  · have : ∀ p ∈ clearedSite.rsv, ∀ f ∈ p.2.flanks, f.state = .held := by decide
    have := this _ (Table.mem_of_find h) f hf
    rcases hs with hs | hs <;> rw [this] at hs <;> cases hs
  · have stops : ∀ p ∈ clearedSite.es, p.1 = 2
        ∨ (match p.2.body with | .signal b => b.demanded | _ => Aspect.stop) = .stop := by decide
    rw [State.signalAt] at h
    split at h
    · next r hr =>
      split at h
      · next x hx =>
        cases h
        rcases stops _ (Table.mem_of_find hr) with he | hs
        · exact ⟨1, _, rfl, he.symm, .inr rfl⟩
        · simp only [hx, hb] at hs
          cases hs
      · cases h
    · cases h

end Sys2Proof.Tests
end

/-! PROOFS. BLOCK and UNBLOCK (R5, R6): both write one field of one element record, the block mark, which no clearing
condition (R95) looks at. -/

namespace Sys2Proof.Machine

/-! Requests on an element. -/

/-- A request that names a defined element is decided by its own rule (R1). -/
theorem State.onElement_defined {s : State} {e : Word} {r : Element} (rule : Nat → Element → State)
    (he : e.toNat ≤ 511) (hr : s.element e.toNat = some r) : s.onElement e rule = rule e.toNat r := by
  have : e.toNat < Config.elements := Nat.lt_succ_of_le he
  simp [State.onElement, hr, this]

/-! The block mark written, and what reads an element record without it. -/

/-- The block mark of an element written: what BLOCK and UNBLOCK do to the state (R5, R6). -/
def State.markBlocked (s : State) (e : Nat) (b : Bool) : State := s.modElement e fun r => { r with blocked := b }

/-- Every record keeps all its fields but the block mark, and that one too where another element is named. -/
theorem State.element_markBlocked (s : State) (e n : Nat) (b : Bool) :
    (s.markBlocked e b).element n
      = (s.element n).map fun r => { r with blocked := if n = e then b else r.blocked } := by
  by_cases h : n = e
  · subst h
    simpa [State.element, State.markBlocked] using Table.find_adjust_same s.es n fun r => { r with blocked := b }
  · simpa [State.element, State.markBlocked, h] using Table.find_adjust_other s.es (fun r => { r with blocked := b }) h

theorem State.element_markBlocked_same {s : State} {e : Nat} {r : Element} (b : Bool) (hr : s.element e = some r) :
    (s.markBlocked e b).element e = some { r with blocked := b } := by
  simp [State.element_markBlocked, hr]

section
variable (s : State) (e : Nat) (b : Bool)

@[simp] theorem State.lockOf_markBlocked : (s.markBlocked e b).lockOf = s.lockOf := by
  funext n
  simp only [State.lockOf, State.element_markBlocked]
  cases s.element n <;> rfl

@[simp] theorem State.isWithdrawn_markBlocked : (s.markBlocked e b).isWithdrawn = s.isWithdrawn := by
  funext n
  simp only [State.isWithdrawn, State.element_markBlocked]
  cases s.element n <;> rfl

@[simp] theorem State.sectionAt_markBlocked : (s.markBlocked e b).sectionAt = s.sectionAt := by
  funext n
  simp only [State.sectionAt, State.element_markBlocked]
  cases s.element n <;> rfl

@[simp] theorem State.pointsAt_markBlocked : (s.markBlocked e b).pointsAt = s.pointsAt := by
  funext n
  simp only [State.pointsAt, State.element_markBlocked]
  cases s.element n <;> rfl

@[simp] theorem State.boundaryAt_markBlocked : (s.markBlocked e b).boundaryAt = s.boundaryAt := by
  funext n
  simp only [State.boundaryAt, State.element_markBlocked]
  cases s.element n <;> rfl

@[simp] theorem State.claimOn_markBlocked : (s.markBlocked e b).claimOn = s.claimOn := by
  funext n
  simp only [State.claimOn, State.element_markBlocked]
  cases s.element n <;> rfl

@[simp] theorem State.occupancy_markBlocked : (s.markBlocked e b).occupancy = s.occupancy := by
  funext n; simp [State.occupancy]

@[simp] theorem State.detection_markBlocked : (s.markBlocked e b).detection = s.detection := by
  funext n; simp [State.detection]

@[simp] theorem State.remoteImage_markBlocked : (s.markBlocked e b).remoteImage = s.remoteImage := by
  funext n; simp [State.remoteImage]

@[simp] theorem State.lineUp_markBlocked : (s.markBlocked e b).lineUp = s.lineUp := rfl

/-- A flank reference is satisfied by claims, remote items and item images (R73, R83), and by no block mark. -/
@[simp] theorem State.refSatisfied_markBlocked : (s.markBlocked e b).refSatisfied = s.refSatisfied := by
  funext f
  have hchosen : (s.markBlocked e b).chosen f = s.chosen f := rfl
  have hitem : (s.markBlocked e b).item = s.item := rfl
  have hline : (s.markBlocked e b).line = s.line := rfl
  simp only [State.refSatisfied, State.claimSatisfied, hchosen, hitem, hline, State.claimOn_markBlocked,
    State.boundaryAt_markBlocked]

end

/-! The clearing conditions. -/

/-- What the clearing conditions of R95 look at: states that agree on it agree on the first condition that fails. -/
theorem State.conditionFailure_congr {s t : State} (hlock : t.lockOf = s.lockOf)
    (hwithdrawn : t.isWithdrawn = s.isWithdrawn) (hdetection : t.detection = s.detection)
    (hoccupancy : t.occupancy = s.occupancy) (hflank : t.refSatisfied = s.refSatisfied) (hline : t.lineUp = s.lineUp)
    (himage : t.remoteImage = s.remoteImage) (slot : Nat) (r : RouteRecord) :
    t.conditionFailure slot r = s.conditionFailure slot r := by
  simp only [State.conditionFailure, hlock, hwithdrawn, hdetection, hoccupancy, hflank, hline, himage]

theorem State.conditionFailure_reply (s : State) (st : Status) (d : List Byte) (slot : Nat) (r : RouteRecord) :
    (s.reply st d).conditionFailure slot r = s.conditionFailure slot r :=
  State.conditionFailure_congr rfl rfl rfl rfl rfl rfl rfl slot r

theorem State.conditionFailure_markBlocked (s : State) (e : Nat) (b : Bool) (slot : Nat) (r : RouteRecord) :
    (s.markBlocked e b).conditionFailure slot r = s.conditionFailure slot r :=
  State.conditionFailure_congr (s.lockOf_markBlocked e b) (s.isWithdrawn_markBlocked e b) (s.detection_markBlocked e b)
    (s.occupancy_markBlocked e b) (s.refSatisfied_markBlocked e b) (s.lineUp_markBlocked e b)
    (s.remoteImage_markBlocked e b) slot r

/-! The two requests. -/

/-- The request that BLOCK and UNBLOCK share: the mark of the named element written, with the answer DONE. -/
def State.markRequest (s : State) (e : Word) (b : Bool) : State :=
  s.request [.operating] fun s => s.onElement e fun n _ => (s.markBlocked n b).done

theorem exec_block (e : Word) (s : State) : exec (.block e) s = .next (s.markRequest e true) := rfl
theorem exec_unblock (e : Word) (s : State) : exec (.unblock e) s = .next (s.markRequest e false) := rfl

theorem State.markRequest_operating {s : State} {e : Word} {r : Element} (b : Bool) (hr : s.cp.receiver = .receiving)
    (hm : s.mode = .operating) (he : e.toNat ≤ 511) (hel : s.element e.toNat = some r) :
    s.markRequest e b = (s.markBlocked e.toNat b).done := by
  rw [State.markRequest, State.request_taken hr (by simp [hm]), State.onElement_defined _ he hel]

theorem State.markRequest_wrongMode {s : State} (e : Word) (b : Bool) (hr : s.cp.receiver = .receiving)
    (hm : s.mode ≠ .operating) : s.markRequest e b = answered s 0x05 [] :=
  State.request_wrongMode hr (by simp [hm])

/-- An element that is not blocked is WITHDRAWN or IN_SERVICE (R4). -/
theorem Element.serviceCode_unblocked {r : Element} (h : r.blocked = false) :
    r.serviceCode = if r.withdrawn then 2 else 0 := by
  simp [Element.serviceCode, h]

/-- Settles O27: the request writes the mark alone, and no clearing condition reads it. -/
theorem blockSetsTheMark : Obligations.BlockSetsTheMark := by
  intro s e r hr
  refine ⟨fun hm he hel => ⟨_, exec_block e s, ?_⟩, fun hm => ?_⟩
  · rw [State.markRequest_operating true hr hm he hel]
    refine ⟨rfl, State.element_markBlocked_same true hel, fun n q => ?_⟩
    exact (State.conditionFailure_reply _ _ _ n q).trans (s.conditionFailure_markBlocked e.toNat true n q)
  · rw [exec_block, State.markRequest_wrongMode e true hr hm]

/-- Settles O28: the request writes the mark alone, so a queue of stored requests stands as it was, and a record
without the mark is WITHDRAWN or IN_SERVICE. -/
theorem unblockClearsTheMark : Obligations.UnblockClearsTheMark := by
  intro s e r hr
  refine ⟨fun hm he hel => ⟨_, exec_unblock e s, ?_⟩, fun hm => ?_⟩
  · rw [State.markRequest_operating false hr hm he hel]
    exact ⟨rfl, _, State.element_markBlocked_same false hel, rfl, Element.serviceCode_unblocked rfl⟩
  · rw [exec_unblock, State.markRequest_wrongMode e false hr hm]

end Sys2Proof.Machine

/-! PROOFS. The notices of the command port: the attention line and SET_NOTICE_ENABLES (R187), READ_NOTICES (R188). -/

namespace Sys2Proof.Machine

/-! Requests taken by their rules. -/

@[simp] theorem Mode.mem_everyMode (m : Mode) : m ∈ everyMode := by
  cases m <;> decide

theorem State.done_eq_answered (s : State) (d : List Byte) : s.done d = answered s 0x00 d := rfl
theorem State.refuse_notDefined (s : State) : s.refuse .notDefined = refused s 0x01 := rfl

theorem exec_readNotices (s : State) : exec .readNotices s = .next (s.request everyMode State.readNotices) := rfl
theorem exec_setNoticeEnables (enables : Word) (master : Byte) (s : State) :
    exec (.setNoticeEnables enables master) s
      = .next (s.request [.configuration, .starting, .operating] (State.setEnables enables master)) := rfl
theorem exec_nextFault (s : State) : exec .nextFault s = .next (s.request servingModes State.nextFault) := rfl

/-! The notices. -/

/-- Notice bits stand in a word with the seven bits above them clear: bits 9 to 15 of the enables are disregarded. -/
theorem noticeBytes_setWidth (enables : Word) : noticeBytes (enables.setWidth 9) = Word.bytes (enables &&& 0x01FF) := by
  have low : (enables.setWidth 9).setWidth 16 = enables &&& 0x01FF := by
    apply BitVec.eq_of_toNat_eq
    have hmask : enables.toNat &&& 0x1FF = enables.toNat % 0x200 := Nat.and_two_pow_sub_one_eq_mod enables.toNat 9
    have hlt : enables.toNat % 0x200 < 0x10000 := by omega
    simp [hmask, Nat.mod_eq_of_lt hlt]
  rw [noticeBytes, low]

/-- A bit vector is not zero where one of its bits is set, and only there. -/
theorem bits_ne_zero_iff {w : Nat} (x : BitVec w) : x ≠ 0 ↔ ∃ i, i < w ∧ x.getLsbD i = true := by
  have hzero (i : Nat) : (0 : BitVec w).getLsbD i = false := BitVec.getLsbD_zero
  constructor
  · intro hx
    refine Classical.byContradiction fun hnone => hx (BitVec.eq_of_getLsbD_eq fun i hi => ?_)
    rw [hzero]
    exact Bool.eq_false_iff.mpr fun h => hnone ⟨i, hi, h⟩
  · intro ⟨i, _, hi⟩ hx
    rw [hx, hzero] at hi
    cases hi

theorem State.attention_iff (s : State) : s.attention = true ↔
    s.cp.master = true ∧ ∃ i, i < 9 ∧ s.cp.latches.getLsbD i = true ∧ s.cp.enables.getLsbD i = true := by
  simp only [State.attention, Bool.and_eq_true, bne_iff_ne, bits_ne_zero_iff, BitVec.getLsbD_and]

theorem State.setEnables_defined {master : Byte} (enables : Word) (s : State) (h : master = 0 ∨ master = 1) :
    s.setEnables enables master = answered
      { s with cp := { s.cp with enables := enables.setWidth 9, master := decide (master = 1) } } 0x00
      (Word.bytes (enables &&& 0x01FF) ++ [master]) := by
  rw [State.setEnables, if_pos h, State.done_eq_answered, noticeBytes_setWidth]
  rfl

theorem State.setEnables_undefined {master : Byte} (enables : Word) (s : State) (h0 : master ≠ 0) (h1 : master ≠ 1) :
    s.setEnables enables master = refused s 0x01 := by
  rw [State.setEnables, if_neg (not_or.mpr ⟨h0, h1⟩), State.refuse_notDefined]

/-- Settles O13: every mode accepts the request, and a latch written into cleared latches stands alone. -/
theorem readNoticesReportsAndClears : Obligations.ReadNoticesReportsAndClears := by
  intro s hr
  refine ⟨s.readNotices, ?_, rfl, fun n => ?_⟩
  · rw [exec_readNotices, State.request_taken hr s.mode.mem_everyMode]
  · have hcleared : s.readNotices.cp.latches = 0 := rfl
    rw [State.latches_latch, hcleared]
    exact BitVec.zero_or

/-- Settles O14: the line by the bits of latches and enables, the request by its two cases of the master byte. -/
theorem attentionFollowsEnables : Obligations.AttentionFollowsEnables := by
  refine ⟨State.attention_iff, fun s enables master ⟨hr, hm⟩ => ⟨fun h => ?_, fun h0 h1 => ?_⟩⟩
  · rw [exec_setNoticeEnables, State.request_taken hr hm, State.setEnables_defined enables s h]
  · rw [exec_setNoticeEnables, State.request_taken hr hm, State.setEnables_undefined enables s h0 h1]

end Sys2Proof.Machine

/-! PROOFS. NEXT_FAULT (R189): the byte of the fault flags, and the lowest record that a test finds in a table whose
identifiers rise. -/

namespace Sys2Proof.Machine

/-! The first record that passes a test. -/

/-- Where identifiers rise, each has one record, so that what is in the table is found under its identifier. -/
theorem Table.find_of_mem {α : Type} {t : Table α} (ht : Ascending t) {k : Nat} {a : α} (h : (k, a) ∈ t) :
    t.find k = some a := by
  induction t with
  | nil => cases h
  | cons p r ih =>
    obtain ⟨habove, hr⟩ := List.pairwise_cons.mp ht
    rcases List.mem_cons.mp h with rfl | hmem
    · simp [Table.find]
    · have hlt : p.1 < k := habove k (List.mem_map_of_mem hmem)
      rw [Table.find, if_neg (by omega), ih hr hmem]

/-- The first record that passes a test is the one of the lowest identifier. -/
theorem Table.find?_eq_lowest {α : Type} {t : Table α} (ht : Ascending t) {p : α → Bool} {k : Nat} {a : α}
    (hk : t.find k = some a) (hp : p a = true) (hlow : ∀ j b, t.find j = some b → p b = true → k ≤ j) :
    t.find? (fun q => p q.2) = some (k, a) := by
  obtain ⟨pre, post, rfl⟩ := List.append_of_mem (Table.mem_of_find hk)
  refine List.find?_eq_some_iff_append.mpr ⟨hp, pre, post, rfl, fun q hq => ?_⟩
  have hlt : q.1 < k := by
    rw [Ascending, List.map_append, List.pairwise_append] at ht
    obtain ⟨-, -, hbelow⟩ := ht
    exact hbelow q.1 (List.mem_map_of_mem hq) k (by simp)
  have hfind : Table.find (pre ++ (k, a) :: post) q.1 = some q.2 :=
    Table.find_of_mem ht (List.mem_append_left _ hq)
  cases hpass : p q.2
  · rfl
  · exact absurd (hlow q.1 q.2 hfind hpass) (Nat.not_le_of_lt hlt)

/-- No record passes a test that none found under its identifier passes. -/
theorem Table.find?_eq_none_of_find {α : Type} {t : Table α} (ht : Ascending t) {p : α → Bool}
    (h : ∀ k a, t.find k = some a → p a = false) : t.find? (fun q => p q.2) = none :=
  List.find?_eq_none.mpr fun q hq => by simp [h q.1 q.2 (Table.find_of_mem ht hq)]

/-! The byte of the fault flags. -/

/-- The bit of each fault flag in the byte of R189. -/
def FaultFlag.place : FaultFlag → Nat
  | .throwFailed => 0 | .detectionLost => 1 | .unsolicitedMove => 2 | .notProven => 3 | .wrongAspect => 4
  | .dark => 5 | .supervisionLost => 6 | .kindMismatchSeen => 7

theorem getLsbD_ite_zero (b : Bool) (x : Byte) (i : Nat) :
    (if b then x else 0).getLsbD i = (b && x.getLsbD i) := by
  cases b <;> simp

theorem Faults.getLsbD_byte (f : Faults) (flag : FaultFlag) : f.byte.getLsbD flag.place = f.has flag := by
  simp only [Faults.byte, BitVec.getLsbD_or, getLsbD_ite_zero]
  cases flag <;> simp [Faults.has, FaultFlag.place]

/-- Two sets of flags that agree on each flag are equal. -/
theorem Faults.ext_has {f g : Faults} (h : ∀ flag, f.has flag = g.has flag) : f = g := by
  cases f; cases g
  exact Faults.mk.injEq .. ▸ ⟨h .throwFailed, h .detectionLost, h .unsolicitedMove, h .notProven, h .wrongAspect,
    h .dark, h .supervisionLost, h .kindMismatchSeen⟩

/-- The byte tells whether any flag is set. -/
theorem Faults.byte_eq_zero_iff (f : Faults) : f.byte = 0 ↔ f = {} := by
  constructor
  · intro h
    refine Faults.ext_has fun flag => ?_
    rw [← f.getLsbD_byte, h, ← Faults.getLsbD_byte]
    rfl
  · rintro rfl
    rfl

theorem Faults.byte_bne_zero_iff (f : Faults) : (f.byte != 0) = true ↔ f ≠ {} := by
  rw [bne_iff_ne, Ne, f.byte_eq_zero_iff]

/-! The request. -/

theorem State.nextFault_lowest {s : State} {e : Nat} {r : Element} (hs : Ascending s.es) (he : s.element e = some r)
    (hf : r.faults ≠ {}) (hlow : ∀ e' r', s.element e' = some r' → r'.faults ≠ {} → e ≤ e') :
    s.nextFault = answered { s with es := s.es.adjust e fun r => { r with faults := {} } } 0x00
      (Word.bytes (BitVec.ofNat 16 e) ++ [r.faults.byte]) := by
  have hfirst : s.es.find? (fun p => p.2.faults.byte != 0) = some (e, r) :=
    Table.find?_eq_lowest (p := fun r => r.faults.byte != 0) hs he (r.faults.byte_bne_zero_iff.mpr hf)
      fun e' r' he' hf' => hlow e' r' he' (r'.faults.byte_bne_zero_iff.mp hf')
  rw [State.nextFault, hfirst]
  rfl

theorem State.nextFault_none {s : State} (hs : Ascending s.es) (h : ∀ e r, s.element e = some r → r.faults = {}) :
    s.nextFault = answered s 0x00 [0xFF, 0xFF, 0] := by
  have hnone : s.es.find? (fun p => p.2.faults.byte != 0) = none :=
    Table.find?_eq_none_of_find (p := fun r => r.faults.byte != 0) hs fun e r he => by rw [h e r he]; rfl
  rw [State.nextFault, hnone]
  rfl

/-- Settles O18: each flag has its bit, so the search by the byte finds the lowest element with a flag. -/
theorem nextFaultAnswersTheLowest : Obligations.NextFaultAnswersTheLowest := by
  refine ⟨fun f => ⟨f.getLsbD_byte .throwFailed, f.getLsbD_byte .detectionLost, f.getLsbD_byte .unsolicitedMove,
    f.getLsbD_byte .notProven, f.getLsbD_byte .wrongAspect, f.getLsbD_byte .dark, f.getLsbD_byte .supervisionLost,
    f.getLsbD_byte .kindMismatchSeen⟩, fun s ⟨hr, hm⟩ hs => ?_⟩
  rw [exec_nextFault, State.request_taken (modes := servingModes) hr hm]
  refine ⟨fun e r he hf hlow => ?_, fun h => ?_⟩
  · rw [State.nextFault_lowest hs he hf hlow]
  · rw [State.nextFault_none hs h]

end Sys2Proof.Machine
